-- ==== Sys2Proof/Word.lean ====
section
/-! DEFINITION. The 32-bit word: every register, command and memory word of the core (R8). -/

namespace Sys2Proof

/-- A 32-bit word, untyped: each rule says how it reads one (R8). -/
abbrev Word := BitVec 32

/-- The STATUS-shaped set of sticky flags: bit b is flag b of R56. -/
abbrev FlagSet := BitVec 7

/-- Bit 31, the sign of a binary32 word (R8). -/
def Word.sign (w : Word) : Bool := w.getLsbD 31

end Sys2Proof
end

