-- ==== Sys2Proof/Machine/Binary32.lean ====
section
/-! DEFINITION. IEEE 754 binary32 with roundTiesToEven (R10, R11), by exact integer arithmetic: a finite word is an
integer number of units of 2^-149, an operation computes its exact result, and one rounding narrows it. -/

namespace Sys2Proof.Machine

/-- The biased exponent, bits 30:23 (R8). -/
def expField (w : Word) : Nat := w.toNat / 2 ^ 23 % 256
/-- The fraction, bits 22:0 (R8). -/
def fracField (w : Word) : Nat := w.toNat % 2 ^ 23

/-- A NaN. -/
def isNaN (w : Word) : Bool := expField w == 255 && fracField w != 0
/-- An infinity of either sign. -/
def isInf (w : Word) : Bool := expField w == 255 && fracField w == 0
/-- R11: true unless a NaN or an infinity. -/
def isFinite (w : Word) : Bool := expField w != 255
/-- A zero of either sign. -/
def isZero (w : Word) : Bool := expField w == 0 && fracField w == 0

/-- The magnitude of a word in units of 2^-149; an infinity counts as 2^128, above every finite value. -/
def units (w : Word) : Nat :=
  if expField w = 0 then fracField w else (2 ^ 23 + fracField w) * 2 ^ (expField w - 1)

/-- The signed value in units of 2^-149: the value of a finite word is `sunits w` / 2^149 (R8). -/
def sunits (w : Word) : Int := if w.sign then -(units w : Int) else (units w : Int)

/-- The word with sign `s` and bits 30:0 = `m`. -/
def signed (s : Bool) (m : Nat) : Word := BitVec.ofNat 32 ((if s then 2 ^ 31 else 0) + m)

/-- The NaN an invalid operation gives. IEEE leaves its payload open and no rule observes it (log 4). -/
def qNaN : Word := 0x7FC00000

/-- The integer nearest to n/d, ties to even (R11, `rte`). -/
def rte (n d : Nat) : Nat :=
  let q := n / d
  let r := n % d
  if d < 2 * r ∨ (2 * r = d ∧ q % 2 = 1) then q + 1 else q

/-- Bits 30:0 of the binary32 nearest to (n/d)·2^-149, ties to even; from the overflow threshold on, an infinity
(R10, R11). With k the exponent of the last place, the quotient rounded at 2^k carries into the exponent by itself. -/
def roundMag (n d : Nat) : Nat :=
  let k := Nat.log2 (n / d) - 23
  min (k * 2 ^ 23 + rte n (d * 2 ^ k)) 0x7F800000

/-- -v: only the sign changes (R10). -/
def fneg (v : Word) : Word := v ^^^ 0x80000000
/-- |v|: only the sign changes (R10). -/
def fabs (v : Word) : Word := v &&& 0x7FFFFFFF

/-- a +f b (R10): an exact sum of zero is +0.0, except that (-0) + (-0) = -0. -/
def fadd (a b : Word) : Word :=
  if isNaN a || isNaN b then qNaN
  else if isInf a then (if isInf b && a.sign != b.sign then qNaN else a)
  else if isInf b then b
  else
    let z := sunits a + sunits b
    if z = 0 then signed (a.sign && b.sign) 0 else signed (decide (z < 0)) (roundMag z.natAbs 1)

/-- a -f b (R10). -/
def fsub (a b : Word) : Word := fadd a (fneg b)

/-- a *f b (R10). -/
def fmul (a b : Word) : Word :=
  let s := a.sign != b.sign
  if isNaN a || isNaN b then qNaN
  else if isInf a || isInf b then (if isZero a || isZero b then qNaN else signed s 0x7F800000)
  else signed s (roundMag (units a * units b) (2 ^ 149))

/-- a /f b (R10). -/
def fdiv (a b : Word) : Word :=
  let s := a.sign != b.sign
  if isNaN a || isNaN b then qNaN
  else if isInf a then (if isInf b then qNaN else signed s 0x7F800000)
  else if isInf b then signed s 0
  else if isZero b then (if isZero a then qNaN else signed s 0x7F800000)
  else signed s (roundMag (units a * 2 ^ 149) (units b))

/-- The integer square root of n, one bit at a time: `acc` plus the bits below `bits` that keep the square at most n. -/
def isqrtFrom (n : Nat) : Nat → Nat → Nat
  | 0, acc => acc
  | bits + 1, acc =>
    let next := acc + 2 ^ bits
    isqrtFrom n bits (if next * next ≤ n then next else acc)

/-- The integer square root of n < 2^512. -/
def isqrt (n : Nat) : Nat := isqrtFrom n 256 0

/-- sqrt32 (R10): correctly rounded. The root's integer part and a sticky half decide the rounding, whose half-way
points are integers (R10). -/
def fsqrt (a : Word) : Word :=
  if isNaN a then qNaN
  else if isZero a then a
  else if a.sign then qNaN
  else if isInf a then a
  else
    let n := units a * 2 ^ 149
    let r := isqrt n
    signed false (roundMag (2 * r + (if r * r = n then 0 else 1)) 2)

/-- IEEE a < b: false on a NaN, and the two zeros are equal. -/
def fLt (a b : Word) : Bool := !isNaN a && !isNaN b && decide (sunits a < sunits b)
/-- IEEE a ≤ b. -/
def fLe (a b : Word) : Bool := !isNaN a && !isNaN b && decide (sunits a ≤ sunits b)

/-- RN32(n / 2^j) for a natural n and j ≤ 149 (R11). -/
def rn32 (n j : Nat) : Word := signed false (roundMag (n * 2 ^ (149 - j)) 1)
/-- RN32(z / 2^j) for an integer z and j ≤ 149 (R11). -/
def rn32Int (z : Int) (j : Nat) : Word := signed (decide (z < 0)) (roundMag (z.natAbs * 2 ^ (149 - j)) 1)
/-- toF32(n) = RN32(n) (R11). -/
def toF32 (n : Nat) : Word := rn32 n 0

end Sys2Proof.Machine
end

