-- ==== Sys2Proof/Config.lean ====
section
/-! DEFINITION. What an implementation of the core fixes: the parameters of R6, which the state carries as data and no
step changes, with the defaults of R6 (log 1); and the configuration fields of R14 and R418, which are free values:
opaque functions with no body, so that nothing can be proved of a value of theirs (logs 2 and 3). The named properties
R14 and R420 grant are imposed where the fields are used (Machine/Fields.lean and Machine/Convolver.lean). -/

namespace Sys2Proof

/-- The parameters of R6 that are not counts of units: NCH, DMEM_WORDS, IR_MAX_LEN, RMS_WIN_MAX, and CONV_TOL as
convTolNum / convTolDen. -/
structure Limits where
  nch : Nat
  dmemWords : Nat
  irMaxLen : Nat
  rmsWinMax : Nat
  convTolNum : Nat
  convTolDen : Nat
  deriving DecidableEq, Repr

/-- The implementation parameters (R6, D15). CORE_BASE is the platform's and no rule reads it (log 14). -/
structure Params extends Limits where
  nbq : Nat
  ndl : Nat
  nenv : Nat
  nlfo : Nat
  ncv : Nat
  npg : Nat
  deriving DecidableEq, Repr

/-- The default value of each parameter (R6). -/
def Params.default : Params where
  nbq := 16
  nch := 2
  ndl := 8
  nenv := 4
  nlfo := 4
  ncv := 2
  npg := 64
  dmemWords := 1048576
  irMaxLen := 131072
  rmsWinMax := 32768
  convTolNum := 1
  convTolDen := 4096

/-- The legal ranges of R6 (D15). -/
structure Params.Legal (p : Params) : Prop where
  nbq : 1 ≤ p.nbq ∧ p.nbq ≤ 255
  nch : 1 ≤ p.nch ∧ p.nch ≤ 4
  ndl : 1 ≤ p.ndl ∧ p.ndl ≤ 255
  nenv : 1 ≤ p.nenv ∧ p.nenv ≤ 255
  nlfo : 1 ≤ p.nlfo ∧ p.nlfo ≤ 255
  ncv : 1 ≤ p.ncv ∧ p.ncv ≤ 255
  npg : 1 ≤ p.npg ∧ p.npg ≤ 255
  dmemWords : 16 ≤ p.dmemWords ∧ p.dmemWords ≤ 2 ^ 24 ∧ 3 * p.ndl ≤ p.dmemWords
  irMaxLen : 1 ≤ p.irMaxLen ∧ p.irMaxLen ≤ 2 ^ 20
  rmsWinMax : 1 ≤ p.rmsWinMax ∧ p.rmsWinMax ≤ 2 ^ 20
  convTol : 0 < p.convTolNum ∧ 0 < p.convTolDen

end Sys2Proof

namespace Sys2Proof.Config

/-- SIN32 before its named properties are imposed (R14, free value, log 2). -/
opaque sinRaw : Word → Word
/-- COS32 before its named properties are imposed (R14, free value, log 2). -/
opaque cosRaw : Word → Word
/-- POW10_32 before its named properties are imposed (R14, free value, log 2). -/
opaque pow10Raw : Word → Word
/-- EXP32 before its named properties are imposed (R14, free value, log 2). -/
opaque expRaw : Word → Word
/-- LOG10_32 before its named property is imposed (R14, free value, log 2). -/
opaque log10Raw : Word → Word
/-- TANH32 before its named properties are imposed (R14, free value, log 2). -/
opaque tanhRaw : Word → Word
/-- CONV_NUM(EH, B, W) before P-CONV-BOUND is imposed (R418, free value, log 3). -/
opaque convRaw : List Word → Nat → List Word → List Word

end Sys2Proof.Config
end

