-- ==== Sys2Proof/Syntax.lean ====
section
/-! DEFINITION. The commands: one constructor for each row of spec/opcode_table.json (R165), the selectors as
named values (R171). -/

namespace Sys2Proof

/-- The filter types of BQDES, FN 0..7 (R171). -/
inductive FilterType where
  | lowpass | highpass | bandpass | notch | peak | lowShelf | highShelf | allPass
  deriving DecidableEq, Repr

/-- The coefficients BQRDC reads, FN 0..4 (R171). -/
inductive CoefIndex where
  | b0 | b1 | b2 | a1 | a2
  deriving DecidableEq, Repr

/-- The waveforms of LFOWAV, FN 0..4 (R171). -/
inductive Waveform where
  | sine | triangle | square | sawtooth | random
  deriving DecidableEq, Repr

/-- POL, the attack policy of an envelope unit: FN bit 0 of ENVCFG (R171, R67). -/
inductive Policy where
  | instantAttack | smoothedAttack
  deriving DecidableEq, Repr

/-- DET, the detector of an envelope unit: FN bit 1 of ENVCFG (R171, R67). -/
inductive Detector where
  | peak | rms
  deriving DecidableEq, Repr

/-- A data register number: d0..d7 (R53, R162). -/
abbrev Reg := Fin 8
/-- The U field: a unit index before its range check (R161, R162). -/
abbrev UnitIx := Fin 256
/-- The CH field: a channel number before its range check (R161, R162). -/
abbrev ChanIx := Fin 4

/-- The commands of R165, with their operands in the order of the fields of R161. -/
inductive Instr where
  | nop
  | prepare (ra rb : Reg)
  | reset
  | fadd (rd ra rb : Reg)
  | fsub (rd ra rb : Reg)
  | fmul (rd ra rb : Reg)
  | fmac (rd ra rb rc : Reg)
  | sclip (rd ra : Reg)
  | bqdes (rd ra rb rc : Reg) (t : FilterType) (u : UnitIx)
  | bqproc (rd ra : Reg) (c : ChanIx) (u : UnitIx)
  | bqclr (u : UnitIx)
  | bqrdc (rd : Reg) (k : CoefIndex) (u : UnitIx)
  | dlcfg (ra rb : Reg) (u : UnitIx)
  | dlwr (ra : Reg) (u : UnitIx)
  | dlrdl (rd ra : Reg) (u : UnitIx)
  | dlrdc (rd ra : Reg) (u : UnitIx)
  | dlclr (u : UnitIx)
  | envcfg (pol : Policy) (det : Detector) (u : UnitIx)
  | envatk (rd ra : Reg) (u : UnitIx)
  | envrel (rd ra : Reg) (u : UnitIx)
  | envwin (ra : Reg) (u : UnitIx)
  | envproc (rd ra : Reg) (u : UnitIx)
  | envdb (rd ra : Reg)
  | envclr (u : UnitIx)
  | lfofrq (ra : Reg) (u : UnitIx)
  | lfowav (wave : Waveform) (u : UnitIx)
  | lfoofs (ra : Reg) (u : UnitIx)
  | lfotick (rd : Reg) (u : UnitIx)
  | lfoseed (ra : Reg) (u : UnitIx)
  | lfordph (rd : Reg) (u : UnitIx)
  | lforst (u : UnitIx)
  | cvcfg (ra : Reg) (u : UnitIx)
  | cvpush (ra : Reg) (u : UnitIx)
  | cvload (rd : Reg) (u : UnitIx)
  | cvproc (rd ra : Reg) (u : UnitIx)
  | cvlat (rd : Reg) (u : UnitIx)
  | cvunld (u : UnitIx)
  | cvclr (u : UnitIx)
  | pgset (ra : Reg) (u : UnitIx)
  | pgchk (rd : Reg) (u : UnitIx)
  | pgget (rd : Reg) (u : UnitIx)
  deriving DecidableEq, Repr

end Sys2Proof
end

