-- ==== Sys2Proof/Machine/State.lean ====
section
/-! DEFINITION. The architectural state of R50 as plain data, its value at hardware reset (R520, R521), and the
reasons a step can stop. -/

namespace Sys2Proof.Machine

/-- A word-addressed store (R66, R67, R69): the listed words by address, every other address reading 0. Its canonical
form, addresses strictly rising and no listed word 0, is `Mem.wf` (log 10). -/
abbrev Mem := List (Nat × Word)

/-- A biquad unit BQ[u] (R64). Z1 and Z2 have a cell for each value of CH, of which R6 allows at most 4; the cells from
NCH on belong to no channel: no command reaches them and they hold +0.0. -/
structure BqUnit where
  type : FilterType
  rf : Word
  rq : Word
  rg : Word
  designed : Bool
  cfs : Word
  b0 : Word
  b1 : Word
  b2 : Word
  a1 : Word
  a2 : Word
  z1 : Vector Word 4
  z2 : Vector Word 4
  deriving DecidableEq, Repr

/-- A delay unit DL[u] (R65). -/
structure DlUnit where
  base : Nat
  cap : Nat
  wi : Nat
  deriving DecidableEq, Repr

/-- An envelope unit ENV[u] (R67). -/
structure EnvUnit where
  pol : Policy
  det : Detector
  rta : Word
  rtr : Word
  rwin : Word
  cfsa : Word
  cfsr : Word
  ac : Word
  ag : Word
  rc : Word
  rg : Word
  w : Nat
  level : Word
  ring : Mem
  ridx : Nat
  sum : Word
  deriving DecidableEq, Repr

/-- An LFO unit LFO[u] (R68). -/
structure LfoUnit where
  rfreq : Word
  inc : Word
  wave : Waveform
  ofs : Word
  seed : Word
  phase : Word
  rng : Word
  held : Word
  deriving DecidableEq, Repr

/-- A convolver unit CV[u] (R69): `blk` is B, `ir` is H[0..L-1] (so L is its length), `stg` is STG[0..SL-1] (so SL is
its length; log 6), and `hist` is HIST with the newest input first (log 12). -/
structure CvUnit where
  blk : Nat
  loaded : Bool
  ir : List Word
  stg : List Word
  n : Nat
  inb : Mem
  outb : Mem
  hist : List Word
  deriving DecidableEq, Repr

/-- A parameter-gate slot PG[u] (R70). -/
structure PgSlot where
  pval : Word
  last : Word
  valid : Bool
  deriving DecidableEq, Repr

/-- The width of a bus access (R122). -/
inductive AccessWidth where
  | byte | half | word
  deriving DecidableEq, Repr

/-- One host step: a bus access to the register window at a byte offset (R16, R121, R122). -/
inductive BusAccess where
  | read (width : AccessWidth) (offset : Fin 256)
  | write (width : AccessWidth) (offset : Fin 256) (data : Word)
  deriving DecidableEq, Repr

/-- What the host observes of one step (R16, R527): the value returned, if the access is a read, and the IRQ level
after the step. -/
structure Observation where
  data : Option Word
  irq : Bool
  deriving DecidableEq, Repr

/-- The state: the parameters that are not unit counts (R6), the register window and global state (R51 to R62), the
units (R64 to R70), as many of each family as the core has (R6), the delay RAM (R66), and the model's own host side
(log 7): the accesses still to come, oldest first, the command index of R52, and what the host has observed, newest
first. -/
structure State where
  limits : Limits
  regs : Vector Word 8
  status : FlagSet
  irqen : FlagSet
  errcmd : Word
  sr : Word
  maxblk : Word
  prepared : Bool
  bq : List BqUnit
  dl : List DlUnit
  dmem : Mem
  env : List EnvUnit
  lfo : List LfoUnit
  cv : List CvUnit
  pg : List PgSlot
  pending : List BusAccess
  ci : Nat
  seen : List Observation
  deriving DecidableEq, Repr

/-- The parameters of this core (R6): NBQ is the number of its biquad units, and so on. No step changes them. -/
def State.params (s : State) : Params where
  toLimits := s.limits
  nbq := s.bq.length
  ndl := s.dl.length
  nenv := s.env.length
  nlfo := s.lfo.length
  ncv := s.cv.length
  npg := s.pg.length

/-- The reasons the machine stops. The spec has no chip fault (R496). -/
inductive Fault where
  /-- Raised by DLWR, DLRDL, DLRDC and DLCLR on a unit whose region does not lie inside DMEM, a DMEM address the spec
  says never occurs (R125, R72 (ii)). Safe: no state reachable from reset raises it (log 11). -/
  | dmemRegion
  deriving DecidableEq, Repr

/-- The reasons a step has no meaning. -/
inductive Refusal where
  /-- Raised by exec's arms for an instruction without a meaning yet; no arm is one now. Safe. -/
  | notModelled (mnemonic : String)
  deriving DecidableEq, Repr

/-- The outcome of a command or a step. -/
abbrev Out := Host.Outcome State Fault Refusal

/-- BQ[u] at reset (R64): undesigned, passing samples through. -/
def BqUnit.reset : BqUnit where
  type := .lowpass
  rf := 0x447A0000
  rq := 0x3F3504F3
  rg := 0x00000000
  designed := false
  cfs := 0x00000000
  b0 := 0x3F800000
  b1 := 0x00000000
  b2 := 0x00000000
  a1 := 0x00000000
  a2 := 0x00000000
  z1 := Vector.replicate 4 0
  z2 := Vector.replicate 4 0

/-- DL[u] at reset (R65, R295): the default regions partition DMEM evenly. -/
def DlUnit.reset (p : Params) (u : Nat) : DlUnit where
  base := u * (p.dmemWords / p.ndl)
  cap := p.dmemWords / p.ndl
  wi := 0

/-- ENV[u] at reset (R67). -/
def EnvUnit.reset : EnvUnit where
  pol := .smoothedAttack
  det := .peak
  rta := 0x41200000
  rtr := 0x42C80000
  rwin := 0x42480000
  cfsa := 0x00000000
  cfsr := 0x00000000
  ac := 0x00000000
  ag := 0x00000000
  rc := 0x00000000
  rg := 0x00000000
  w := 1
  level := 0x00000000
  ring := []
  ridx := 0
  sum := 0x00000000

/-- LFO[u] at reset (R68). -/
def LfoUnit.reset : LfoUnit where
  rfreq := 0x3F800000
  inc := 0
  wave := .sine
  ofs := 0
  seed := 1
  phase := 0
  rng := 1
  held := 0x00000000

/-- CV[u] at reset (R69). -/
def CvUnit.reset : CvUnit where
  blk := 256
  loaded := false
  ir := []
  stg := []
  n := 0
  inb := []
  outb := []
  hist := []

/-- PG[u] at reset (R70). -/
def PgSlot.reset : PgSlot where
  pval := 0
  last := 0
  valid := false

/-- A core with parameters p after hardware reset (R520, R521), with no access pending and nothing observed (log 7).
DMEM is unspecified there and unobservable (R522); the model's reads 0 (log 5). -/
def State.resetOf (p : Params) : State where
  limits := p.toLimits
  regs := Vector.replicate 8 0
  status := 0
  irqen := 0
  errcmd := 0
  sr := 0x473B8000
  maxblk := 0
  prepared := false
  bq := List.replicate p.nbq BqUnit.reset
  dl := (List.range p.ndl).map (DlUnit.reset p)
  dmem := []
  env := List.replicate p.nenv EnvUnit.reset
  lfo := List.replicate p.nlfo LfoUnit.reset
  cv := List.replicate p.ncv CvUnit.reset
  pg := List.replicate p.npg PgSlot.reset
  pending := []
  ci := 0
  seen := []

/-- The machine after hardware reset, with the default parameters of R6 (log 1). -/
def State.reset : State := State.resetOf Params.default

end Sys2Proof.Machine
end

