-- ==== Sys2Proof/Machine/Flags.lean ====
section
/-! DEFINITION. The STATUS flags (R56, R480), the primitive `flag` (R483), the two refusals `raise ILL` and
`raise SEQ` (R482), BUS (R122) and the interrupt line (R486). -/

namespace Sys2Proof.Machine

/-- ILL, STATUS bit 0 (R56). -/
def flagILL : FlagSet := 0x01
/-- SEQ, STATUS bit 1 (R56). -/
def flagSEQ : FlagSet := 0x02
/-- CLAMP, STATUS bit 2 (R56). -/
def flagCLAMP : FlagSet := 0x04
/-- RSRC, STATUS bit 3 (R56). -/
def flagRSRC : FlagSet := 0x08
/-- FMT, STATUS bit 4 (R56). -/
def flagFMT : FlagSet := 0x10
/-- NUM, STATUS bit 5 (R56). -/
def flagNUM : FlagSet := 0x20
/-- BUS, STATUS bit 6 (R56). -/
def flagBUS : FlagSet := 0x40

/-- The flags `f` where the condition holds, none elsewhere. -/
def flagIf (c : Bool) (f : FlagSet) : FlagSet := if c then f else 0

/-- A command `w` flags every flag of `f` (R483, R58): the sticky bits are set, and ERRCMD takes the command's word if
there is any. Their order is not observable (R485). -/
def State.flag (s : State) (w : Word) (f : FlagSet) : State :=
  { s with status := s.status ||| f, errcmd := if f = 0 then s.errcmd else w }

/-- A non-word or misaligned access sets STATUS.BUS and nothing else (R122, R480). -/
def State.flagBus (s : State) : State := { s with status := s.status ||| flagBUS }

/-- IRQ, the OR over b of STATUS[b] AND IRQEN[b] (R486). -/
def State.irq (s : State) : Bool := s.status &&& s.irqen != 0

/-- `sanitize` (R12): a finite value is kept, any other becomes +0.0 with NUM. -/
def sanitize (v : Word) : Word × FlagSet := if isFinite v then (v, 0) else (0x00000000, flagNUM)

end Sys2Proof.Machine
end

