-- ==== Sys2Proof/Machine/Numeric.lean ====
section
/-! DEFINITION. The numeric primitives of the scope file: constants (R11), parameter clamps (R13) and integer
primitives (R15). -/

namespace Sys2Proof.Machine

/-- 1.0 -/
def f1 : Word := 0x3F800000
/-- 2.0 -/
def f2 : Word := 0x40000000
/-- -2.0 -/
def fm2 : Word := 0xC0000000
/-- 0.5 -/
def fHalf : Word := 0x3F000000
/-- 1.5 -/
def f1p5 : Word := 0x3FC00000
/-- 2.5 -/
def f2p5 : Word := 0x40200000
/-- 20.0 -/
def f20 : Word := 0x41A00000
/-- 40.0 -/
def f40 : Word := 0x42200000
/-- 1000.0 -/
def f1000 : Word := 0x447A0000
/-- TWO_PI = RN32(2π) (R11). -/
def fTwoPi : Word := 0x40C90FDB
/-- C049 = RN32(0.49) (R11). -/
def fC049 : Word := 0x3EFAE148
/-- EPS_DB = RN32(1e-5) (R11, R342). -/
def fEpsDb : Word := 0x3727C5AC
/-- 2^-126, the least envelope coefficient (R332). -/
def fMinCoef : Word := 0x00800000
/-- 1 - 2^-24, the greatest envelope coefficient (R332). -/
def fMaxCoef : Word := 0x3F7FFFFF

/-- A row of R13's table: the bounds and the value that replaces a NaN. -/
structure ClampRow where
  lo : Word
  hi : Word
  nan : Word
  deriving DecidableEq, Repr

/-- Row FS (R13). -/
def rowFS : ClampRow := ⟨0x45FA0000, 0x48BB8000, 0x473B8000⟩
/-- Row FREQ (R13): hi = C049 *f SR, and the NaN value 1000.0 gives way to hi where it exceeds it. -/
def rowFREQ (sr : Word) : ClampRow :=
  let hi := fmul fC049 sr
  ⟨f1, hi, if fLt hi f1000 then hi else f1000⟩
/-- Row Q (R13): RN32(0.05) to 50.0, NaN RN32(√0.5). -/
def rowQ : ClampRow := ⟨0x3D4CCCCD, 0x42480000, 0x3F3504F3⟩
/-- Row GAIN (R13): -60.0 to 60.0. -/
def rowGAIN : ClampRow := ⟨0xC2700000, 0x42700000, 0x00000000⟩
/-- Row TAU (R13): RN32(0.01) to 10000.0 ms, NaN 10.0. -/
def rowTAU : ClampRow := ⟨0x3C23D70A, 0x461C4000, 0x41200000⟩
/-- Row WIN (R13): RN32(0.1) to 1000.0 ms, NaN 50.0. -/
def rowWIN : ClampRow := ⟨0x3DCCCCCD, 0x447A0000, 0x42480000⟩
/-- Row LFOF (R13): 0.0 to 0.5 *f SR. -/
def rowLFOF (sr : Word) : ClampRow := ⟨0x00000000, fmul fHalf sr, 0x00000000⟩

/-- The value `clampP` returns (R13). -/
def clampValue (v : Word) (p : ClampRow) : Word :=
  if isNaN v then p.nan else if fLt v p.lo then p.lo else if fLt p.hi v then p.hi else v

/-- `clampP(v, P)` (R13): the clamped value, with CLAMP if it differs from v as a bit pattern. -/
def clampP (v : Word) (p : ClampRow) : Word × FlagSet := (clampValue v p, flagIf (clampValue v p != v) flagCLAMP)

/-- The block sizes: the powers of two in [32, 4096], ascending (R69, R411). -/
def blockSizes : List Nat := [32, 64, 128, 256, 512, 1024, 2048, 4096]

/-- The distance of two naturals. -/
def dist (a b : Nat) : Nat := (a - b) + (b - a)

/-- `nearestPow2(n, 32, 4096)` (R15): the block size nearest to n, the larger of two equally near. -/
def nearestBlock (n : Nat) : Nat := blockSizes.foldl (fun best p => if dist p n ≤ dist best n then p else best) 32

/-- `xorshift32` (R15). -/
def xorshift32 (s : Word) : Word :=
  let s1 := s ^^^ (s <<< 13)
  let s2 := s1 ^^^ (s1 >>> 17)
  s2 ^^^ (s2 <<< 5)

end Sys2Proof.Machine
end

