-- ==== Sys2Proof/Machine/Fields.lean ====
section
/-! DEFINITION. The configuration fields of R14 with the named properties a model may assume imposed on the opaque
values of Config: where a raw value breaks one, another value stands in its place. A chip's field breaks none, so every
admissible field is one of these functions (log 2). P-EXP-MONO and P-TANH-MONO are not imposed. -/

namespace Sys2Proof.Machine

/-- The sign of `v` put on `r` by flipping (how an odd function continues to negative arguments). -/
def flipBy (v r : Word) : Word := if v.sign then fneg r else r

/-- SIN32 (R14): P-SIN-RANGE, P-SIN-ODD, P-SIN-ZERO. -/
def sin32 (v : Word) : Word :=
  if isNaN v then Config.sinRaw v
  else if isZero v then v
  else
    let r := Config.sinRaw (fabs v)
    flipBy v (if isFinite v && !fLe (fabs r) f1 then 0 else r)

/-- COS32 (R14): P-COS-RANGE, P-COS-EVEN. -/
def cos32 (v : Word) : Word :=
  if isNaN v then Config.cosRaw v
  else
    let r := Config.cosRaw (fabs v)
    if isFinite v && !fLe (fabs r) f1 then 0 else r

/-- POW10_32 (R14): P-POW-ONE, and P-POW-POS for v in [-1.5, 1.5]. -/
def pow10_32 (v : Word) : Word :=
  if isZero v then f1
  else
    let r := Config.pow10Raw v
    if fLe (fabs v) f1p5 && !fLt 0 r then f1 else r

/-- EXP32 (R14): P-EXP-RANGE for v ≤ 0. -/
def exp32 (v : Word) : Word :=
  let r := Config.expRaw v
  if fLe v 0 && !(fLe 0 r && fLe r f1) then 0 else r

/-- LOG10_32 (R14): P-LOG-FINITE for finite v ≥ EPS_DB. -/
def log10_32 (v : Word) : Word :=
  let r := Config.log10Raw v
  if isFinite v && fLe fEpsDb v && !isFinite r then 0 else r

/-- TANH32 (R14): P-TANH-RANGE, P-TANH-ODD, P-TANH-ZERO, P-TANH-CONTRACT. -/
def tanh32 (v : Word) : Word :=
  if isNaN v then Config.tanhRaw v
  else if isZero v then v
  else
    let r := Config.tanhRaw (fabs v)
    flipBy v (if fLe (fabs r) f1 && fLe (fabs r) (fabs v) then r else 0)

end Sys2Proof.Machine
end

