-- ==== Sys2Proof/WellFormed.lean ====
section
/-! DEFINITION. The range checks R164 (d) and (e) make on a command: its unit index is below its family's unit
count, and its channel below NCH. The other checks of R164 are the decoder's: a term of Instr cannot break them. -/

namespace Sys2Proof

/-- The unit index of a command that uses U, with its family's unit count (R165, R6); none where U is unused. -/
def Instr.unit (p : Params) : Instr → Option (UnitIx × Nat)
  | .nop | .prepare _ _ | .reset => none
  | .fadd _ _ _ | .fsub _ _ _ | .fmul _ _ _ | .fmac _ _ _ _ | .sclip _ _ => none
  | .bqdes _ _ _ _ _ u | .bqproc _ _ _ u | .bqclr u | .bqrdc _ _ u => some (u, p.nbq)
  | .dlcfg _ _ u | .dlwr _ u | .dlrdl _ _ u | .dlrdc _ _ u | .dlclr u => some (u, p.ndl)
  | .envcfg _ _ u | .envatk _ _ u | .envrel _ _ u | .envwin _ u | .envproc _ _ u | .envclr u => some (u, p.nenv)
  | .envdb _ _ => none
  | .lfofrq _ u | .lfowav _ u | .lfoofs _ u | .lfotick _ u | .lfoseed _ u | .lfordph _ u | .lforst u =>
    some (u, p.nlfo)
  | .cvcfg _ u | .cvpush _ u | .cvload _ u | .cvproc _ _ u | .cvlat _ u | .cvunld u | .cvclr u => some (u, p.ncv)
  | .pgset _ u | .pgchk _ u | .pgget _ u => some (u, p.npg)

/-- R164 (d): a command that uses U names an existing unit. -/
def Instr.unitOk (p : Params) (i : Instr) : Bool :=
  match i.unit p with
  | none => true
  | some (u, n) => decide (u.val < n)

/-- R164 (e): BQPROC, the one command that uses CH, names an existing channel. -/
def Instr.channelOk (p : Params) : Instr → Bool
  | .bqproc _ _ c _ => decide (c.val < p.nch)
  | .nop | .prepare _ _ | .reset | .fadd _ _ _ | .fsub _ _ _ | .fmul _ _ _ | .fmac _ _ _ _ | .sclip _ _
  | .bqdes _ _ _ _ _ _ | .bqclr _ | .bqrdc _ _ _
  | .dlcfg _ _ _ | .dlwr _ _ | .dlrdl _ _ _ | .dlrdc _ _ _ | .dlclr _
  | .envcfg _ _ _ | .envatk _ _ _ | .envrel _ _ _ | .envwin _ _ | .envproc _ _ _ | .envdb _ _ | .envclr _
  | .lfofrq _ _ | .lfowav _ _ | .lfoofs _ _ | .lfotick _ _ | .lfoseed _ _ | .lfordph _ _ | .lforst _
  | .cvcfg _ _ | .cvpush _ _ | .cvload _ _ | .cvproc _ _ _ | .cvlat _ _ | .cvunld _ | .cvclr _
  | .pgset _ _ | .pgchk _ _ | .pgget _ _ => true

/-- A command whose word is legal on a core with parameters p (R164). -/
def Instr.wf (p : Params) (i : Instr) : Bool := i.unitOk p && i.channelOk p

end Sys2Proof
end

