-- ==== Sys2Proof/Decode.lean ====
section
/-! DEFINITION. The command word: its fields (R161), the decoder with the checks of R164 over the opcode map of
R165, and the encoder, written from the same two rules. -/

namespace Sys2Proof

/-- The fields of a command word (R161). They fill all 32 bits. -/
structure Fields where
  op : Fin 64
  rd : Reg
  ra : Reg
  rb : Reg
  rc : Reg
  ch : ChanIx
  fn : Fin 16
  u : UnitIx
  deriving DecidableEq, Repr

/-- The fields of a word: OP[31:26] RD[25:23] RA[22:20] RB[19:17] RC[16:14] CH[13:12] FN[11:8] U[7:0] (R161). -/
def Fields.ofWord (w : Word) : Fields where
  op := Fin.ofNat 64 (w.toNat / 2 ^ 26)
  rd := Fin.ofNat 8 (w.toNat / 2 ^ 23)
  ra := Fin.ofNat 8 (w.toNat / 2 ^ 20)
  rb := Fin.ofNat 8 (w.toNat / 2 ^ 17)
  rc := Fin.ofNat 8 (w.toNat / 2 ^ 14)
  ch := Fin.ofNat 4 (w.toNat / 2 ^ 12)
  fn := Fin.ofNat 16 (w.toNat / 2 ^ 8)
  u := Fin.ofNat 256 w.toNat

/-- The word with these fields (R161). -/
def Fields.toWord (f : Fields) : Word :=
  BitVec.ofNat 32 (f.op.val * 2 ^ 26 + f.rd.val * 2 ^ 23 + f.ra.val * 2 ^ 20 + f.rb.val * 2 ^ 17 + f.rc.val * 2 ^ 14
    + f.ch.val * 2 ^ 12 + f.fn.val * 2 ^ 8 + f.u.val)

/-- The checks of R164 that a word can fail, by name. -/
inductive Illegal where
  /-- (a) OP is not assigned (R165, R167). -/
  | opcode
  /-- (b) a field the command does not use is not zero. -/
  | unusedField
  /-- (c) FN is outside the command's legal set (R171). -/
  | selector
  /-- (d) U is not below the family's unit count. -/
  | unitRange
  /-- (e) CH is not below NCH. -/
  | channelRange
  deriving DecidableEq, Repr

/-- The filter type FN names (R171). -/
def FilterType.ofFn : Fin 16 → Option FilterType
  | 0 => some .lowpass
  | 1 => some .highpass
  | 2 => some .bandpass
  | 3 => some .notch
  | 4 => some .peak
  | 5 => some .lowShelf
  | 6 => some .highShelf
  | 7 => some .allPass
  | _ => none

/-- FN of a filter type (R171). -/
def FilterType.toFn : FilterType → Fin 16
  | .lowpass => 0
  | .highpass => 1
  | .bandpass => 2
  | .notch => 3
  | .peak => 4
  | .lowShelf => 5
  | .highShelf => 6
  | .allPass => 7

/-- The coefficient FN names (R171). -/
def CoefIndex.ofFn : Fin 16 → Option CoefIndex
  | 0 => some .b0
  | 1 => some .b1
  | 2 => some .b2
  | 3 => some .a1
  | 4 => some .a2
  | _ => none

/-- FN of a coefficient (R171). -/
def CoefIndex.toFn : CoefIndex → Fin 16
  | .b0 => 0
  | .b1 => 1
  | .b2 => 2
  | .a1 => 3
  | .a2 => 4

/-- The waveform FN names (R171). -/
def Waveform.ofFn : Fin 16 → Option Waveform
  | 0 => some .sine
  | 1 => some .triangle
  | 2 => some .square
  | 3 => some .sawtooth
  | 4 => some .random
  | _ => none

/-- FN of a waveform (R171). -/
def Waveform.toFn : Waveform → Fin 16
  | .sine => 0
  | .triangle => 1
  | .square => 2
  | .sawtooth => 3
  | .random => 4

/-- POL from FN bit 0 (R171). -/
def Policy.ofFn (fn : Fin 16) : Policy := if fn.val % 2 = 0 then .instantAttack else .smoothedAttack
/-- DET from FN bit 1 (R171). -/
def Detector.ofFn (fn : Fin 16) : Detector := if fn.val / 2 % 2 = 0 then .peak else .rms

/-- FN of ENVCFG: bit 0 POL, bit 1 DET, bits 3:2 zero (R171). -/
def envcfgFn : Policy → Detector → Fin 16
  | .instantAttack, .peak => 0
  | .smoothedAttack, .peak => 1
  | .instantAttack, .rms => 2
  | .smoothedAttack, .rms => 3

/-- R164 (b): these fields of the word, which the command does not use, are zero. -/
def unused (fields : List Nat) (r : Except Illegal Instr) : Except Illegal Instr :=
  if fields.all (· == 0) then r else .error .unusedField

/-- R164 (c): the command FN selects, if FN is in its legal set. -/
def selected : Option Instr → Except Illegal Instr
  | some i => .ok i
  | none => .error .selector

/-- The opcode map of R165 with the checks (a), (b) and (c) of R164: for each opcode, the fields R166 marks unused
and the command. -/
def Fields.command (f : Fields) : Except Illegal Instr :=
  let rd := f.rd.val; let ra := f.ra.val; let rb := f.rb.val; let rc := f.rc.val
  let ch := f.ch.val; let fn := f.fn.val; let u := f.u.val
  match f.op.val with
  | 0x00 => unused [rd, ra, rb, rc, ch, fn, u] (.ok .nop)
  | 0x01 => unused [rd, rc, ch, fn, u] (.ok (.prepare f.ra f.rb))
  | 0x02 => unused [rd, ra, rb, rc, ch, fn, u] (.ok .reset)
  | 0x03 => unused [rc, ch, fn, u] (.ok (.fadd f.rd f.ra f.rb))
  | 0x04 => unused [rc, ch, fn, u] (.ok (.fsub f.rd f.ra f.rb))
  | 0x05 => unused [rc, ch, fn, u] (.ok (.fmul f.rd f.ra f.rb))
  | 0x06 => unused [ch, fn, u] (.ok (.fmac f.rd f.ra f.rb f.rc))
  | 0x07 => unused [rb, rc, ch, fn, u] (.ok (.sclip f.rd f.ra))
  | 0x08 => unused [ch] (selected ((FilterType.ofFn f.fn).map fun t => .bqdes f.rd f.ra f.rb f.rc t f.u))
  | 0x09 => unused [rb, rc, fn] (.ok (.bqproc f.rd f.ra f.ch f.u))
  | 0x0A => unused [rd, ra, rb, rc, ch, fn] (.ok (.bqclr f.u))
  | 0x0B => unused [ra, rb, rc, ch] (selected ((CoefIndex.ofFn f.fn).map fun k => .bqrdc f.rd k f.u))
  | 0x10 => unused [rd, rc, ch, fn] (.ok (.dlcfg f.ra f.rb f.u))
  | 0x11 => unused [rd, rb, rc, ch, fn] (.ok (.dlwr f.ra f.u))
  | 0x12 => unused [rb, rc, ch, fn] (.ok (.dlrdl f.rd f.ra f.u))
  | 0x13 => unused [rb, rc, ch, fn] (.ok (.dlrdc f.rd f.ra f.u))
  | 0x14 => unused [rd, ra, rb, rc, ch, fn] (.ok (.dlclr f.u))
  | 0x18 => unused [rd, ra, rb, rc, ch, fn / 4] (.ok (.envcfg (Policy.ofFn f.fn) (Detector.ofFn f.fn) f.u))
  | 0x19 => unused [rb, rc, ch, fn] (.ok (.envatk f.rd f.ra f.u))
  | 0x1A => unused [rb, rc, ch, fn] (.ok (.envrel f.rd f.ra f.u))
  | 0x1B => unused [rd, rb, rc, ch, fn] (.ok (.envwin f.ra f.u))
  | 0x1C => unused [rb, rc, ch, fn] (.ok (.envproc f.rd f.ra f.u))
  | 0x1D => unused [rb, rc, ch, fn, u] (.ok (.envdb f.rd f.ra))
  | 0x1E => unused [rd, ra, rb, rc, ch, fn] (.ok (.envclr f.u))
  | 0x20 => unused [rd, rb, rc, ch, fn] (.ok (.lfofrq f.ra f.u))
  | 0x21 => unused [rd, ra, rb, rc, ch] (selected ((Waveform.ofFn f.fn).map fun w => .lfowav w f.u))
  | 0x22 => unused [rd, rb, rc, ch, fn] (.ok (.lfoofs f.ra f.u))
  | 0x23 => unused [ra, rb, rc, ch, fn] (.ok (.lfotick f.rd f.u))
  | 0x24 => unused [rd, rb, rc, ch, fn] (.ok (.lfoseed f.ra f.u))
  | 0x25 => unused [ra, rb, rc, ch, fn] (.ok (.lfordph f.rd f.u))
  | 0x26 => unused [rd, ra, rb, rc, ch, fn] (.ok (.lforst f.u))
  | 0x28 => unused [rd, rb, rc, ch, fn] (.ok (.cvcfg f.ra f.u))
  | 0x29 => unused [rd, rb, rc, ch, fn] (.ok (.cvpush f.ra f.u))
  | 0x2A => unused [ra, rb, rc, ch, fn] (.ok (.cvload f.rd f.u))
  | 0x2B => unused [rb, rc, ch, fn] (.ok (.cvproc f.rd f.ra f.u))
  | 0x2C => unused [ra, rb, rc, ch, fn] (.ok (.cvlat f.rd f.u))
  | 0x2D => unused [rd, ra, rb, rc, ch, fn] (.ok (.cvunld f.u))
  | 0x2E => unused [rd, ra, rb, rc, ch, fn] (.ok (.cvclr f.u))
  | 0x30 => unused [rd, rb, rc, ch, fn] (.ok (.pgset f.ra f.u))
  | 0x31 => unused [ra, rb, rc, ch, fn] (.ok (.pgchk f.rd f.u))
  | 0x32 => unused [ra, rb, rc, ch, fn] (.ok (.pgget f.rd f.u))
  | _ => .error .opcode

/-- The decoder of a core with parameters p: total on words, every word one legal command or illegal by name (R164,
R167). -/
def decode (p : Params) (w : Word) : Except Illegal Instr :=
  match (Fields.ofWord w).command with
  | .ok i => if !i.unitOk p then .error .unitRange else if !i.channelOk p then .error .channelRange else .ok i
  | .error e => .error e

/-- The fields of a command: its opcode (R165), its operands, and zero in every field it does not use (R166). -/
def Instr.fields : Instr → Fields
  | .nop => ⟨0x00, 0, 0, 0, 0, 0, 0, 0⟩
  | .prepare ra rb => ⟨0x01, 0, ra, rb, 0, 0, 0, 0⟩
  | .reset => ⟨0x02, 0, 0, 0, 0, 0, 0, 0⟩
  | .fadd rd ra rb => ⟨0x03, rd, ra, rb, 0, 0, 0, 0⟩
  | .fsub rd ra rb => ⟨0x04, rd, ra, rb, 0, 0, 0, 0⟩
  | .fmul rd ra rb => ⟨0x05, rd, ra, rb, 0, 0, 0, 0⟩
  | .fmac rd ra rb rc => ⟨0x06, rd, ra, rb, rc, 0, 0, 0⟩
  | .sclip rd ra => ⟨0x07, rd, ra, 0, 0, 0, 0, 0⟩
  | .bqdes rd ra rb rc t u => ⟨0x08, rd, ra, rb, rc, 0, t.toFn, u⟩
  | .bqproc rd ra c u => ⟨0x09, rd, ra, 0, 0, c, 0, u⟩
  | .bqclr u => ⟨0x0A, 0, 0, 0, 0, 0, 0, u⟩
  | .bqrdc rd k u => ⟨0x0B, rd, 0, 0, 0, 0, k.toFn, u⟩
  | .dlcfg ra rb u => ⟨0x10, 0, ra, rb, 0, 0, 0, u⟩
  | .dlwr ra u => ⟨0x11, 0, ra, 0, 0, 0, 0, u⟩
  | .dlrdl rd ra u => ⟨0x12, rd, ra, 0, 0, 0, 0, u⟩
  | .dlrdc rd ra u => ⟨0x13, rd, ra, 0, 0, 0, 0, u⟩
  | .dlclr u => ⟨0x14, 0, 0, 0, 0, 0, 0, u⟩
  | .envcfg pol det u => ⟨0x18, 0, 0, 0, 0, 0, envcfgFn pol det, u⟩
  | .envatk rd ra u => ⟨0x19, rd, ra, 0, 0, 0, 0, u⟩
  | .envrel rd ra u => ⟨0x1A, rd, ra, 0, 0, 0, 0, u⟩
  | .envwin ra u => ⟨0x1B, 0, ra, 0, 0, 0, 0, u⟩
  | .envproc rd ra u => ⟨0x1C, rd, ra, 0, 0, 0, 0, u⟩
  | .envdb rd ra => ⟨0x1D, rd, ra, 0, 0, 0, 0, 0⟩
  | .envclr u => ⟨0x1E, 0, 0, 0, 0, 0, 0, u⟩
  | .lfofrq ra u => ⟨0x20, 0, ra, 0, 0, 0, 0, u⟩
  | .lfowav w u => ⟨0x21, 0, 0, 0, 0, 0, w.toFn, u⟩
  | .lfoofs ra u => ⟨0x22, 0, ra, 0, 0, 0, 0, u⟩
  | .lfotick rd u => ⟨0x23, rd, 0, 0, 0, 0, 0, u⟩
  | .lfoseed ra u => ⟨0x24, 0, ra, 0, 0, 0, 0, u⟩
  | .lfordph rd u => ⟨0x25, rd, 0, 0, 0, 0, 0, u⟩
  | .lforst u => ⟨0x26, 0, 0, 0, 0, 0, 0, u⟩
  | .cvcfg ra u => ⟨0x28, 0, ra, 0, 0, 0, 0, u⟩
  | .cvpush ra u => ⟨0x29, 0, ra, 0, 0, 0, 0, u⟩
  | .cvload rd u => ⟨0x2A, rd, 0, 0, 0, 0, 0, u⟩
  | .cvproc rd ra u => ⟨0x2B, rd, ra, 0, 0, 0, 0, u⟩
  | .cvlat rd u => ⟨0x2C, rd, 0, 0, 0, 0, 0, u⟩
  | .cvunld u => ⟨0x2D, 0, 0, 0, 0, 0, 0, u⟩
  | .cvclr u => ⟨0x2E, 0, 0, 0, 0, 0, 0, u⟩
  | .pgset ra u => ⟨0x30, 0, ra, 0, 0, 0, 0, u⟩
  | .pgchk rd u => ⟨0x31, rd, 0, 0, 0, 0, 0, u⟩
  | .pgget rd u => ⟨0x32, rd, 0, 0, 0, 0, 0, u⟩

/-- The word of a command (R161, R165). -/
def encode (i : Instr) : Word := i.fields.toWord

/-- What the decoder reads from an instruction of `nbits` bits `w`, numbered as the opcode table numbers them. A
command is always one 32-bit word (R160), so every bit at and above `nbits` is 0. The parameters are State.reset's. -/
def decodeTableWord (nbits w : Nat) : Option Instr :=
  (decode Params.default (BitVec.ofNat 32 (w % 2 ^ nbits))).toOption

end Sys2Proof
end

