-- ==== Sys2Proof/Machine/Ops.lean ====
section
/-! DEFINITION. The named operations over memory, registers and units, the refusals that end a command (R482) and the
execution frame every command passes (R172). The core has no trap (R488): taking an exceptional event is `State.raise`
here or `State.flag` in Flags.lean, and there is no return from one (R489). -/

namespace Sys2Proof.Machine

/-- The canonical form of a store: addresses strictly rising, no listed word 0. -/
abbrev Mem.wf (m : Mem) : Prop := m.Pairwise (fun c d => c.1 < d.1) ∧ ∀ c ∈ m, c.2 ≠ 0

/-- `MemRead(a, 1)` (R125): the word at a, 0 where none is listed. -/
def Mem.read : Mem → Nat → Word
  | [], _ => 0
  | c :: m, a => if c.1 = a then c.2 else Mem.read m a

/-- `MemWrite(a, 1, v)` (R125): replaces the word at a; writing 0 removes the entry. -/
def Mem.write : Mem → Nat → Word → Mem
  | [], a, v => if v = 0 then [] else [(a, v)]
  | c :: m, a, v =>
    if a < c.1 then (if v = 0 then c :: m else (a, v) :: c :: m)
    else if a = c.1 then (if v = 0 then m else (a, v) :: m)
    else c :: Mem.write m a v

/-- Every word of addresses b..b+n-1 set to +0.0, as DLCFG and DLCLR do word by word (R294, R299). -/
def Mem.zeroRange (m : Mem) (b n : Nat) : Mem := m.filter fun c => decide (c.1 < b) || decide (b + n ≤ c.1)

/-- The words of a list at addresses from `a` on. -/
def Mem.ofWordsFrom : Nat → List Word → Mem
  | _, [] => []
  | a, v :: vs => if v = 0 then Mem.ofWordsFrom (a + 1) vs else (a, v) :: Mem.ofWordsFrom (a + 1) vs

/-- The words of a list at addresses 0, 1, … -/
def Mem.ofWords (vs : List Word) : Mem := Mem.ofWordsFrom 0 vs

/-- `x[i]` (R9). -/
def State.reg (s : State) (r : Reg) : Word := s.regs.get r
/-- `x[i] <- v` (R9). -/
def State.setReg (s : State) (r : Reg) (v : Word) : State := { s with regs := s.regs.set r.val v r.isLt }

/-! The units by index. Where there is no unit u, which R164 (d) excludes, a read gives the reset value and a write has
no effect. -/

/-- BQ[u] (R64). -/
def State.bqAt (s : State) (u : UnitIx) : BqUnit := s.bq.getD u.val BqUnit.reset
/-- BQ[u] replaced. -/
def State.setBq (s : State) (u : UnitIx) (x : BqUnit) : State := { s with bq := s.bq.set u.val x }
/-- DL[u] (R65). -/
def State.dlAt (s : State) (u : UnitIx) : DlUnit := s.dl.getD u.val ⟨0, 3, 0⟩
/-- DL[u] replaced. -/
def State.setDl (s : State) (u : UnitIx) (x : DlUnit) : State := { s with dl := s.dl.set u.val x }
/-- The delay RAM replaced (R66). -/
def State.setDmem (s : State) (m : Mem) : State := { s with dmem := m }
/-- ENV[u] (R67). -/
def State.envAt (s : State) (u : UnitIx) : EnvUnit := s.env.getD u.val EnvUnit.reset
/-- ENV[u] replaced. -/
def State.setEnv (s : State) (u : UnitIx) (x : EnvUnit) : State := { s with env := s.env.set u.val x }
/-- LFO[u] (R68). -/
def State.lfoAt (s : State) (u : UnitIx) : LfoUnit := s.lfo.getD u.val LfoUnit.reset
/-- LFO[u] replaced. -/
def State.setLfo (s : State) (u : UnitIx) (x : LfoUnit) : State := { s with lfo := s.lfo.set u.val x }
/-- CV[u] (R69). -/
def State.cvAt (s : State) (u : UnitIx) : CvUnit := s.cv.getD u.val CvUnit.reset
/-- CV[u] replaced. -/
def State.setCv (s : State) (u : UnitIx) (x : CvUnit) : State := { s with cv := s.cv.set u.val x }
/-- PG[u] (R70). -/
def State.pgAt (s : State) (u : UnitIx) : PgSlot := s.pg.getD u.val PgSlot.reset
/-- PG[u] replaced. -/
def State.setPg (s : State) (u : UnitIx) (x : PgSlot) : State := { s with pg := s.pg.set u.val x }

/-- `raise ILL(w)` and `raise SEQ(w)` (R482): the command ends at once; the STATUS bit is set and ERRCMD takes the
word. -/
def State.raise (s : State) (f : FlagSet) (w : Word) : State := { s with status := s.status ||| f, errcmd := w }

/-- The frame of NOP, PREPARE and RESET (R172): an illegal word raises ILL; otherwise the command's rule, given its
word, runs. The word of a command is its encoding (log 9). -/
def frameAlways (i : Instr) (s : State) (body : Word → Out) : Out :=
  if !i.wf s.params then .next (s.raise flagILL (encode i)) else body (encode i)

/-- The frame of every other command (R172): after the legality check, PREPARED = 0 raises SEQ. -/
def frame (i : Instr) (s : State) (body : Word → Out) : Out :=
  frameAlways i s fun w => if !s.prepared then .next (s.raise flagSEQ w) else body w

/-- Hardware reset (R520, R521): every architectural element takes its reset value; the parameters
and the host's own side stay. -/
def State.hardwareReset (s : State) : State :=
  { State.resetOf s.params with pending := s.pending, ci := s.ci, seen := s.seen }

end Sys2Proof.Machine
end

