-- ==== Sys2Proof/Machine/Operands.lean ====
section
/-! DEFINITION. The operand forms of R166: a source read as a sample (f), as uint32 (u) or as a raw word (w), and a
destination written as a sample result, as uint32 or as a raw word. -/

namespace Sys2Proof.Machine

/-- A sample operand: `sanitize(f32(x[r]))` (R12). -/
def State.sample (s : State) (r : Reg) : Word × FlagSet := sanitize (s.reg r)

/-- A uint32 operand: `u32(x[r])` (R8). -/
def State.u32 (s : State) (r : Reg) : Nat := (s.reg r).toNat

/-- A sample result: `x[rd] <- bits(sanitize(v))` by the command w, whose other flags are `f` (R12). -/
def State.putSample (s : State) (w : Word) (rd : Reg) (v : Word) (f : FlagSet) : State :=
  (s.setReg rd (sanitize v).1).flag w (f ||| (sanitize v).2)

/-- A uint32 result 1 or 0 (R252, R338, R413, R462). -/
def boolWord (b : Bool) : Word := if b then 1 else 0

end Sys2Proof.Machine
end

