-- ==== Sys2Proof/Machine/Biquad.lean ====
section
/-! DEFINITION. The coefficient generator (R240 to R250), the filter step (R251), and BQDES, BQPROC, BQCLR, BQRDC
(R252 to R255). -/

namespace Sys2Proof.Machine

/-- The unnormalized coefficients of a design (R246). -/
structure RawCoefs where
  b0 : Word
  b1 : Word
  b2 : Word
  a0 : Word
  a1 : Word
  a2 : Word
  deriving DecidableEq, Repr

/-- The normalized coefficients (R247). -/
structure Coefs where
  b0 : Word
  b1 : Word
  b2 : Word
  a1 : Word
  a2 : Word
  deriving DecidableEq, Repr

/-- The Cookbook row of type t (R246) over the sub-expressions of R244 and R245, one rounding an operator. -/
def cookbook (t : FilterType) (cs alpha A : Word) : RawCoefs :=
  let m := fsub f1 cs
  let p := fadd f1 cs
  let a1c := fmul fm2 cs
  let ap := fadd f1 alpha
  let am := fsub f1 alpha
  let aA := fmul alpha A
  let adA := fdiv alpha A
  let tsa := fmul (fmul f2 (fsqrt A)) alpha
  let Ap1 := fadd A f1
  let Am1 := fsub A f1
  let uu := fmul Am1 cs
  let vv := fmul Ap1 cs
  match t with
  | .lowpass => ⟨fmul fHalf m, m, fmul fHalf m, ap, a1c, am⟩
  | .highpass => ⟨fmul fHalf p, fneg p, fmul fHalf p, ap, a1c, am⟩
  | .bandpass => ⟨alpha, 0, fneg alpha, ap, a1c, am⟩
  | .notch => ⟨f1, a1c, f1, ap, a1c, am⟩
  | .peak => ⟨fadd f1 aA, a1c, fsub f1 aA, fadd f1 adA, a1c, fsub f1 adA⟩
  | .lowShelf =>
    ⟨fmul A (fadd (fsub Ap1 uu) tsa), fmul (fmul f2 A) (fsub Am1 vv), fmul A (fsub (fsub Ap1 uu) tsa),
      fadd (fadd Ap1 uu) tsa, fmul fm2 (fadd Am1 vv), fsub (fadd Ap1 uu) tsa⟩
  | .highShelf =>
    ⟨fmul A (fadd (fadd Ap1 uu) tsa), fmul (fmul fm2 A) (fadd Am1 vv), fmul A (fsub (fadd Ap1 uu) tsa),
      fadd (fsub Ap1 uu) tsa, fmul f2 (fsub Am1 vv), fsub (fsub Ap1 uu) tsa⟩
  | .allPass => ⟨am, a1c, ap, ap, a1c, am⟩

/-- One coefficient divided by a0, with -0.0 stored as +0.0 (R247). -/
def normCoef (b a0 : Word) : Word := if fdiv b a0 = 0x80000000 then 0 else fdiv b a0

/-- Normalization by a0 (R247). -/
def normalize (r : RawCoefs) : Coefs :=
  ⟨normCoef r.b0 r.a0, normCoef r.b1 r.a0, normCoef r.b2 r.a0, normCoef r.a1 r.a0, normCoef r.a2 r.a0⟩

/-- All five coefficients are finite (R249). -/
def Coefs.finite (c : Coefs) : Bool :=
  isFinite c.b0 && isFinite c.b1 && isFinite c.b2 && isFinite c.a1 && isFinite c.a2

/-- The passthrough set (R249, D19). -/
def Coefs.passthrough : Coefs := ⟨f1, 0, 0, 0, 0⟩

/-- Normalization with the coefficient check of R249. -/
def checkedCoefs (r : RawCoefs) : Coefs × FlagSet :=
  if isZero r.a0 || !(normalize r).finite then (Coefs.passthrough, flagNUM) else (normalize r, 0)

/-- The coefficients designed from a type and the clamped f, q, g at the rate sr (R242, R243, R246). -/
def designRaw (t : FilterType) (f q g sr : Word) : RawCoefs :=
  let w0 := fdiv (fmul fTwoPi f) sr
  cookbook t (cos32 w0) (fdiv (sin32 w0) (fmul f2 q)) (pow10_32 (fdiv g f40))

/-- `Design(u)` (R241, R250): the unit with its coefficients and CFS written, and the flags of the clamps and of the
coefficient check. -/
def design (sr : Word) (b : BqUnit) : BqUnit × FlagSet :=
  let f := clampP b.rf (rowFREQ sr)
  let q := clampP b.rq rowQ
  let g := clampP b.rg rowGAIN
  let c := checkedCoefs (designRaw b.type f.1 q.1 g.1 sr)
  ({ b with b0 := c.1.b0, b1 := c.1.b1, b2 := c.1.b2, a1 := c.1.a1, a2 := c.1.a2, cfs := sr },
    f.2 ||| q.2 ||| g.2 ||| c.2)

/-- Z1[c] and Z2[c] written (R251). -/
def BqUnit.setZ (b : BqUnit) (c : ChanIx) (n1 n2 : Word) : BqUnit :=
  { b with z1 := b.z1.set c.val n1 c.isLt, z2 := b.z2.set c.val n2 c.isLt }

/-- `Step(u, c, x)` (R251): the output, the unit with its channel state, and NUM on the recovery branch. -/
def biquadStep (b : BqUnit) (c : ChanIx) (x : Word) : Word × BqUnit × FlagSet :=
  let z1 := b.z1.get c
  let z2 := b.z2.get c
  let y := fadd (fmul b.b0 x) z1
  let n1 := fsub (fadd (fmul b.b1 x) z2) (fmul b.a1 y)
  let n2 := fsub (fmul b.b2 x) (fmul b.a2 y)
  if isFinite y && isFinite n1 && isFinite n2 then (y, b.setZ c n1 n2, 0) else (0, b.setZ c 0 0, flagNUM)

/-- Z1 and Z2 of every channel cleared (R254, R204). -/
def BqUnit.clear (b : BqUnit) : BqUnit :=
  { b with z1 := Vector.replicate 4 0, z2 := Vector.replicate 4 0 }

/-- The stored coefficient FN selects (R255). -/
def BqUnit.coef (b : BqUnit) : CoefIndex → Word
  | .b0 => b.b0
  | .b1 => b.b1
  | .b2 => b.b2
  | .a1 => b.a1
  | .a2 => b.a2

/-- The design inputs equal the stored ones bit for bit and the unit was designed at this rate (R252, R257). -/
def BqUnit.keeps (b : BqUnit) (t : FilterType) (rf rq rg sr : Word) : Bool :=
  b.designed && b.type == t && b.rf == rf && b.rq == rq && b.rg == rg && b.cfs == sr

/-- BQDES (R252). -/
def execBqdes (rd ra rb rc : Reg) (t : FilterType) (u : UnitIx) (s : State) : Out :=
  frame (.bqdes rd ra rb rc t u) s fun w =>
    let b := s.bqAt u
    if b.keeps t (s.reg ra) (s.reg rb) (s.reg rc) s.sr then .next (s.setReg rd 0)
    else
      let d := design s.sr { b with type := t, rf := s.reg ra, rq := s.reg rb, rg := s.reg rc, designed := true }
      .next (((s.setBq u d.1).setReg rd 1).flag w d.2)

/-- BQPROC (R253). -/
def execBqproc (rd ra : Reg) (c : ChanIx) (u : UnitIx) (s : State) : Out :=
  frame (.bqproc rd ra c u) s fun w =>
    let x := s.sample ra
    let r := biquadStep (s.bqAt u) c x.1
    .next (((s.setBq u r.2.1).setReg rd r.1).flag w (x.2 ||| r.2.2))

/-- BQCLR (R254). -/
def execBqclr (u : UnitIx) (s : State) : Out :=
  frame (.bqclr u) s fun _ => .next (s.setBq u (s.bqAt u).clear)

/-- BQRDC (R255). -/
def execBqrdc (rd : Reg) (k : CoefIndex) (u : UnitIx) (s : State) : Out :=
  frame (.bqrdc rd k u) s fun _ => .next (s.setReg rd ((s.bqAt u).coef k))

end Sys2Proof.Machine
end

