-- ==== Sys2Proof/Machine/Convolver.lean ====
section
/-! DEFINITION. The block convolver: the stream (R414), the exact reference (R416), CONV_NUM within P-CONV-BOUND (R418,
R420), BlockOut (R417), and CVCFG, CVPUSH, CVLOAD, CVPROC, CVLAT, CVUNLD, CVCLR (R411 to R413, R415, R422 to R424). -/

namespace Sys2Proof.Machine

/-- `ClearStream(u)` (R414). -/
def CvUnit.clearStream (c : CvUnit) : CvUnit := { c with n := 0, inb := [], outb := [], hist := [] }

/-- The effective impulse response EH: H[0..L-1] if loaded, [1.0] if not (R69). -/
def CvUnit.eh (c : CvUnit) : List Word := if c.loaded then c.ir else [f1]

/-- P = ceil(EL/B), the number of partitions (R416). -/
def partitions (el b : Nat) : Nat := (el + b - 1) / b

/-- W_j, the newest (P+2)·B inputs, oldest first, zeros standing for the inputs before the stream (R418). -/
def CvUnit.window (c : CvUnit) : List Word :=
  let len := (partitions c.eh.length c.blk + 2) * c.blk
  (c.hist.take len ++ List.replicate (len - c.hist.length) 0).reverse

/-- Σ_k EH[k] · W[at - k] on the exact values, in units of 2^-298 (R416): R(m) for W[at] = x_m. -/
def convExact (eh win : List Word) (at' : Nat) : Int :=
  ((List.range eh.length).map fun k => sunits (eh.getD k 0) * sunits (win.getD (at' - k) 0)).sum

/-- Σ_k |EH[k]| in units of 2^-149 (R420). -/
def irMass (eh : List Word) : Nat := (eh.map units).sum

/-- M, the largest |x_s| of the window, in units of 2^-149 (R420). -/
def peakOf (win : List Word) : Nat := (win.map units).foldl max 0

/-- |out - R(m)| ≤ CONV_TOL · (Σ|EH[k]|) · M for i < B, m = jB + i: x_m stands at index (P+1)·B + i of W_j (R420). -/
def withinConvTol (p : Limits) (eh : List Word) (b : Nat) (win : List Word) (i : Nat) (out : Word) : Bool :=
  decide ((sunits out * 2 ^ 149 - convExact eh win ((partitions eh.length b + 1) * b + i)).natAbs * p.convTolDen
    ≤ p.convTolNum * (irMass eh * peakOf win))

/-- CONV_NUM(EH, B, W)[i] (R418) with P-CONV-BOUND imposed (R420): a finite value outside the bound, which no chip
gives, counts as non-finite (log 3). -/
def convNum (p : Limits) (eh : List Word) (b : Nat) (win : List Word) (i : Nat) : Word :=
  let out := (Config.convRaw eh b win).getD i 0
  if isFinite out && !withinConvTol p eh b win i out then qNaN else out

/-- out[i] of BlockOut for the block that INB and HIST now hold (R417): the scalar path for one tap reads INB (log 13),
CONV_NUM the window. -/
def CvUnit.blockRaw (p : Limits) (c : CvUnit) (i : Nat) : Word :=
  if c.eh.length = 1 then fmul (c.eh.getD 0 0) (c.inb.read i) else convNum p c.eh c.blk c.window i

/-- The B values out[0..B-1] of BlockOut (R417). -/
def CvUnit.blockOut (p : Limits) (c : CvUnit) : List Word := (List.range c.blk).map (c.blockRaw p)

/-- OUTB ← BlockOut, each value sanitized, and N ← 0 (R415, R417). -/
def CvUnit.finishBlock (p : Limits) (c : CvUnit) : CvUnit × FlagSet :=
  ({ c with outb := Mem.ofWords ((c.blockOut p).map fun v => (sanitize v).1), n := 0 },
    flagIf ((c.blockOut p).any fun v => !isFinite v) flagNUM)

/-- The unit with the sanitized input v taken in (R415): INB[N] and HIST, N advanced. -/
def CvUnit.accept (c : CvUnit) (v : Word) : CvUnit :=
  { c with inb := c.inb.write c.n v, hist := v :: c.hist, n := c.n + 1 }

/-- One sample through the unit (R415), and NUM of a block it completes. -/
def CvUnit.push (p : Limits) (c : CvUnit) (v : Word) : CvUnit × FlagSet :=
  if (c.accept v).n = c.blk then (c.accept v).finishBlock p else (c.accept v, 0)

/-- CVCFG (R411). -/
def execCvcfg (ra : Reg) (u : UnitIx) (s : State) : Out :=
  frame (.cvcfg ra u) s fun w =>
    let b := nearestBlock (s.u32 ra)
    .next ((s.setCv u { (s.cvAt u).clearStream with blk := b }).flag w (flagIf (b != s.u32 ra) flagCLAMP))

/-- CVPUSH (R412): a sample past IR_MAX_LEN is dropped with RSRC. -/
def execCvpush (ra : Reg) (u : UnitIx) (s : State) : Out :=
  frame (.cvpush ra u) s fun w =>
    let c := s.cvAt u
    if c.stg.length < s.limits.irMaxLen then .next (s.setCv u { c with stg := c.stg ++ [s.reg ra] })
    else .next (s.flag w flagRSRC)

/-- CVLOAD's outcome: the staging buffer holds a sample and only finite ones (R413). -/
def CvUnit.loadable (c : CvUnit) : Bool := !c.stg.isEmpty && c.stg.all isFinite

/-- The unit after CVLOAD (R413). -/
def CvUnit.load (c : CvUnit) : CvUnit :=
  { c.clearStream with loaded := c.loadable, ir := if c.loadable then c.stg else c.ir, stg := [] }

/-- CVLOAD (R413). -/
def execCvload (rd : Reg) (u : UnitIx) (s : State) : Out :=
  frame (.cvload rd u) s fun w =>
    let c := s.cvAt u
    .next (((s.setCv u c.load).setReg rd (boolWord c.loadable)).flag w (flagIf (!c.loadable) flagFMT))

/-- CVPROC (R415): the output is read before the block's result is written. -/
def execCvproc (rd ra : Reg) (u : UnitIx) (s : State) : Out :=
  frame (.cvproc rd ra u) s fun w =>
    let c := s.cvAt u
    let v := s.sample ra
    let r := c.push s.limits v.1
    .next (((s.setCv u r.1).setReg rd (c.outb.read c.n)).flag w (v.2 ||| r.2))

/-- CVLAT (R422). -/
def execCvlat (rd : Reg) (u : UnitIx) (s : State) : Out :=
  frame (.cvlat rd u) s fun _ => .next (s.setReg rd (BitVec.ofNat 32 (s.cvAt u).blk))

/-- CVUNLD (R423). -/
def execCvunld (u : UnitIx) (s : State) : Out :=
  frame (.cvunld u) s fun _ => .next (s.setCv u { (s.cvAt u).clearStream with loaded := false })

/-- CVCLR (R424). -/
def execCvclr (u : UnitIx) (s : State) : Out :=
  frame (.cvclr u) s fun _ => .next (s.setCv u (s.cvAt u).clearStream)

end Sys2Proof.Machine
end

