-- ==== Sys2Proof/Machine/Delay.lean ====
section
/-! DEFINITION. The fractional delay line: the delay operand (R291, R292), taps (R293), interpolation (R300 to R302)
and DLCFG, DLWR, DLRDL, DLRDC, DLCLR (R294, R296 to R299). -/

namespace Sys2Proof.Machine

/-- DMAX = CAP - 3, the largest legal delay (R65). -/
def DlUnit.dmax (d : DlUnit) : Nat := d.cap - 3

/-- The unit's region lies inside a DMEM of `words` words, as it does in every state reachable from reset (R65,
R72 (ii), log 11). -/
def DlUnit.regionOk (words : Nat) (d : DlUnit) : Bool := decide (3 ≤ d.cap) && decide (d.base + d.cap ≤ words)

/-- `DelayClamp(v, u)` (R291). -/
def delayClamp (v : Word) (d : DlUnit) : Word × FlagSet :=
  if isNaN v then (0, flagCLAMP)
  else if fLt v 0 then (0, flagCLAMP)
  else if fLt (toF32 d.dmax) v then (toF32 d.dmax, flagRSRC)
  else (v, 0)

/-- k = floor(D) of a legal delay (R292). -/
def delayInt (D : Word) : Nat := units D / 2 ^ 149

/-- fr = D -f toF32(k) (R292). -/
def delayFrac (D : Word) : Word := fsub D (toF32 (delayInt D))

/-- The DMEM address of the sample delayed by k: BASE + ((WI - k) mod CAP) (R293). -/
def DlUnit.tapAddr (d : DlUnit) (k : Nat) : Nat := d.base + (((d.wi : Int) - (k : Int)) % (d.cap : Int)).toNat

/-- `tap(u, k)` (R293). -/
def tap (m : Mem) (d : DlUnit) (k : Nat) : Word := m.read (d.tapAddr k)

/-- `Lin(u, D)` (R300). -/
def lin (m : Mem) (d : DlUnit) (D : Word) : Word :=
  let k := delayInt D
  let fr := delayFrac D
  let s0 := tap m d k
  if isZero fr then s0 else fadd (fmul (fsub f1 fr) s0) (fmul fr (tap m d (k + 1)))

/-- `Cub(u, D)`, the Catmull-Rom interpolator (R301, R302): at k = 0 the newer neighbour is the delay-0 tap. -/
def cub (m : Mem) (d : DlUnit) (D : Word) : Word :=
  let k := delayInt D
  let fr := delayFrac D
  let x0 := tap m d k
  if isZero fr then x0
  else
    let xm1 := if k = 0 then tap m d 0 else tap m d (k - 1)
    let x1 := tap m d (k + 1)
    let x2 := tap m d (k + 2)
    let c1 := fmul fHalf (fsub x1 xm1)
    let c2 := fsub (fadd (fsub xm1 (fmul f2p5 x0)) (fmul f2 x1)) (fmul fHalf x2)
    let c3 := fadd (fmul fHalf (fsub x2 xm1)) (fmul f1p5 (fsub x0 x1))
    fadd (fmul (fadd (fmul (fadd (fmul c3 fr) c2) fr) c1) fr) x0

/-- The region DLCFG gives for a requested base b and largest delay md in a DMEM of `words` words, with RSRC where it
does not fit (R294). -/
def dlRegion (words b md : Nat) : DlUnit × FlagSet :=
  let b' := min b (words - 3)
  let cap := min (md + 3) (words - b')
  (⟨b', cap, 0⟩, flagIf (b' != b || cap != md + 3) flagRSRC)

/-- DLCFG (R294). -/
def execDlcfg (ra rb : Reg) (u : UnitIx) (s : State) : Out :=
  frame (.dlcfg ra rb u) s fun w =>
    let r := dlRegion s.limits.dmemWords (s.u32 ra) (s.u32 rb)
    .next (((s.setDl u r.1).setDmem (s.dmem.zeroRange r.1.base r.1.cap)).flag w r.2)

/-- WI advanced by one, modulo CAP (R296). -/
def DlUnit.advance (d : DlUnit) : DlUnit := { d with wi := (d.wi + 1) % d.cap }

/-- DLWR (R296): WI advances, then the sample is stored at BASE + WI. -/
def execDlwr (ra : Reg) (u : UnitIx) (s : State) : Out :=
  frame (.dlwr ra u) s fun w =>
    if (s.dlAt u).regionOk s.limits.dmemWords then
      let v := s.sample ra
      let d := (s.dlAt u).advance
      .next (((s.setDl u d).setDmem (s.dmem.write (d.base + d.wi) v.1)).flag w v.2)
    else .fault .dmemRegion

/-- A delay read (R297, R298) by its interpolator. -/
def delayRead (i : Instr) (interp : Mem → DlUnit → Word → Word) (rd ra : Reg) (u : UnitIx) (s : State) : Out :=
  frame i s fun w =>
    if (s.dlAt u).regionOk s.limits.dmemWords then
      let D := delayClamp (s.reg ra) (s.dlAt u)
      .next (s.putSample w rd (interp s.dmem (s.dlAt u) D.1) D.2)
    else .fault .dmemRegion

/-- DLRDL (R297). -/
def execDlrdl (rd ra : Reg) (u : UnitIx) (s : State) : Out := delayRead (.dlrdl rd ra u) lin rd ra u s

/-- DLRDC (R298). -/
def execDlrdc (rd ra : Reg) (u : UnitIx) (s : State) : Out := delayRead (.dlrdc rd ra u) cub rd ra u s

/-- WI at its cleared value (R204, R299). -/
def DlUnit.clear (d : DlUnit) : DlUnit := { d with wi := 0 }

/-- DLCLR (R299). -/
def execDlclr (u : UnitIx) (s : State) : Out :=
  frame (.dlclr u) s fun _ =>
    let d := s.dlAt u
    if d.regionOk s.limits.dmemWords then .next ((s.setDl u d.clear).setDmem (s.dmem.zeroRange d.base d.cap))
    else .fault .dmemRegion

end Sys2Proof.Machine
end

