-- ==== Sys2Proof/Machine/Envelope.lean ====
section
/-! DEFINITION. The envelope detector: coefficients and window (R332, R333), detector and policies (R334 to R336), and
ENVCFG, ENVATK, ENVREL, ENVWIN, ENVPROC, ENVDB, ENVCLR (R337 to R343). -/

namespace Sys2Proof.Machine

/-- The coefficient c of EnvCoef held in [2^-126, 1 - 2^-24] (R332). -/
def boundCoef (c : Word) : Word :=
  let c' := if fLt c fMinCoef then fMinCoef else c
  if fLt fMaxCoef c' then fMaxCoef else c'

/-- `EnvCoef(raw)` at the rate sr (R332): the pair (c, 1 -f c), and CLAMP. -/
def envCoef (sr raw : Word) : (Word × Word) × FlagSet :=
  let tau := clampP raw rowTAU
  let n := fdiv (fmul tau.1 sr) f1000
  let c := boundCoef (exp32 (fneg (fdiv f1 n)))
  ((c, fsub f1 c), tau.2)

/-- `WinSamples(raw)` at the rate sr (R333), `limit` being RMS_WIN_MAX: W, with CLAMP and RSRC. -/
def winSamples (limit : Nat) (sr raw : Word) : Nat × FlagSet :=
  let win := clampP raw rowWIN
  let n := fdiv (fmul win.1 sr) f1000
  let W := max (rte (units n) (2 ^ 149)) 1
  (min W limit, win.2 ||| flagIf (decide (limit < W)) flagRSRC)

/-- `ClearRms(u)` (R335). -/
def EnvUnit.clearRms (e : EnvUnit) : EnvUnit := { e with ring := [], ridx := 0, sum := 0 }

/-- The dynamic state cleared: the level and the RMS state (R343, R204). -/
def EnvUnit.clear (e : EnvUnit) : EnvUnit := { e.clearRms with level := 0 }

/-- The RMS detector's state after the square of x enters the ring and the oldest square leaves it (R334): an
overflowing square counts as +0 and a non-finite sum clears the RMS state, each with NUM. -/
def EnvUnit.pushSquare (e : EnvUnit) (x : Word) : EnvUnit × FlagSet :=
  let sq := sanitize (fmul x x)
  let s := fsub (fadd e.sum sq.1) (e.ring.read e.ridx)
  if isFinite s then ({ e with ring := e.ring.write e.ridx sq.1, ridx := (e.ridx + 1) % e.w, sum := s }, sq.2)
  else (e.clearRms, sq.2 ||| flagNUM)

/-- The root of the mean of the ring (R334): the mean is clamped at +0. -/
def EnvUnit.rms (e : EnvUnit) : Word :=
  let ms := fdiv e.sum (toF32 e.w)
  fsqrt (if fLt 0 ms then ms else 0)

/-- `Detect(u, xin)` (R334): the detector output, the unit, and NUM. -/
def detect (e : EnvUnit) (x : Word) : Word × EnvUnit × FlagSet :=
  match e.det with
  | .peak => (fabs x, e, 0)
  | .rms => ((e.pushSquare x).1.rms, e.pushSquare x)

/-- One one-pole update c·level + g·e (R331). -/
def onePole (c g level e : Word) : Word := fadd (fmul c level) (fmul g e)

/-- The level `Follow(u, e)` computes before it is sanitized (R336). -/
def EnvUnit.target (v : EnvUnit) (e : Word) : Word :=
  if fLt v.level e then
    match v.pol with
    | .instantAttack => e
    | .smoothedAttack => onePole v.ac v.ag v.level e
  else onePole v.rc v.rg v.level e

/-- `Follow(u, e)` (R336): the unit with its new LEVEL, and NUM. -/
def follow (v : EnvUnit) (e : Word) : EnvUnit × FlagSet :=
  ({ v with level := (sanitize (v.target e)).1 }, (sanitize (v.target e)).2)

/-- ENVCFG (R337). -/
def execEnvcfg (pol : Policy) (det : Detector) (u : UnitIx) (s : State) : Out :=
  frame (.envcfg pol det u) s fun _ => .next (s.setEnv u { (s.envAt u).clearRms with pol := pol, det := det })

/-- ENVATK (R338). -/
def execEnvatk (rd ra : Reg) (u : UnitIx) (s : State) : Out :=
  frame (.envatk rd ra u) s fun w =>
    let e := s.envAt u
    if e.rta = s.reg ra ∧ e.cfsa = s.sr then .next (s.setReg rd 0)
    else
      let c := envCoef s.sr (s.reg ra)
      .next (((s.setEnv u { e with rta := s.reg ra, ac := c.1.1, ag := c.1.2, cfsa := s.sr }).setReg rd 1).flag w c.2)

/-- ENVREL (R339). -/
def execEnvrel (rd ra : Reg) (u : UnitIx) (s : State) : Out :=
  frame (.envrel rd ra u) s fun w =>
    let e := s.envAt u
    if e.rtr = s.reg ra ∧ e.cfsr = s.sr then .next (s.setReg rd 0)
    else
      let c := envCoef s.sr (s.reg ra)
      .next (((s.setEnv u { e with rtr := s.reg ra, rc := c.1.1, rg := c.1.2, cfsr := s.sr }).setReg rd 1).flag w c.2)

/-- ENVWIN (R340). -/
def execEnvwin (ra : Reg) (u : UnitIx) (s : State) : Out :=
  frame (.envwin ra u) s fun w =>
    let n := winSamples s.limits.rmsWinMax s.sr (s.reg ra)
    .next ((s.setEnv u { (s.envAt u).clearRms with rwin := s.reg ra, w := n.1 }).flag w n.2)

/-- ENVPROC (R341). -/
def execEnvproc (rd ra : Reg) (u : UnitIx) (s : State) : Out :=
  frame (.envproc rd ra u) s fun w =>
    let x := s.sample ra
    let d := detect (s.envAt u) x.1
    let f := follow d.2.1 d.1
    .next (((s.setEnv u f.1).setReg rd f.1.level).flag w (x.2 ||| d.2.2 ||| f.2))

/-- ENVDB (R342): 20·log10 of the level, floored at EPS_DB. -/
def execEnvdb (rd ra : Reg) (s : State) : Out :=
  frame (.envdb rd ra) s fun w =>
    let v := s.sample ra
    let m := if fLt fEpsDb v.1 then v.1 else fEpsDb
    .next (s.putSample w rd (fmul f20 (log10_32 m)) v.2)

/-- ENVCLR (R343). -/
def execEnvclr (u : UnitIx) (s : State) : Out :=
  frame (.envclr u) s fun _ => .next (s.setEnv u (s.envAt u).clear)

end Sys2Proof.Machine
end

