-- ==== Sys2Proof/Machine/Lfo.lean ====
section
/-! DEFINITION. The phase-accumulator LFO: the increment (R370), the waveforms (R379 to R385), the random generator
(R375), and LFOFRQ, LFOWAV, LFOOFS, LFOTICK, LFOSEED, LFORDPH, LFORST (R371 to R378). -/

namespace Sys2Proof.Machine

/-- `LfoInc(raw)` at the rate sr (R370): the increment in units of 2^-32 cycle, at most 2^31, and CLAMP. -/
def lfoInc (sr raw : Word) : Word × FlagSet :=
  let f := clampP raw (rowLFOF sr)
  let r := fdiv f.1 sr
  (BitVec.ofNat 32 (min (rte (units r * 2 ^ 32) (2 ^ 149)) (2 ^ 31)), f.2)

/-- The sine by table lookup (R381); 0x34800000 is 2^-22. -/
def waveSine (p : Word) : Word :=
  let i := p.toNat / 2 ^ 22
  let fr := fmul (toF32 (p.toNat % 2 ^ 22)) 0x34800000
  fadd (sineTable i) (fmul fr (fsub (sineTable (i + 1)) (sineTable i)))

/-- The triangle (R382). -/
def waveTriangle (p : Word) : Word :=
  let t := rn32 (p.toNat % 2 ^ 30) 30
  match p.toNat / 2 ^ 30 with
  | 0 => t
  | 1 => fsub f1 t
  | 2 => fsub 0 t
  | _ => fsub t f1

/-- The square (R383). -/
def waveSquare (p : Word) : Word := if p.toNat < 2 ^ 31 then f1 else fneg f1

/-- The sawtooth (R384). -/
def waveSaw (p : Word) : Word := fsub (rn32 p.toNat 31) f1

/-- `Wave(w, p)` (R379), the random waveform reading HELD (R385). -/
def waveAt (w : Waveform) (p held : Word) : Word :=
  match w with
  | .sine => waveSine p
  | .triangle => waveTriangle p
  | .square => waveSquare p
  | .sawtooth => waveSaw p
  | .random => held

/-- The generator steps and HELD takes the new value (R375). -/
def LfoUnit.draw (l : LfoUnit) : LfoUnit :=
  { l with rng := xorshift32 l.rng, held := rn32Int (xorshift32 l.rng).toInt 31 }

/-- The unit after one tick (R374): on a carry out of 32 bits the generator steps; PHASE advances by INC. -/
def LfoUnit.tick (l : LfoUnit) : LfoUnit :=
  let l' := if 2 ^ 32 ≤ l.phase.toNat + l.inc.toNat then l.draw else l
  { l' with phase := l.phase + l.inc }

/-- The waveform at PHASE + OFS (R374). -/
def LfoUnit.value (l : LfoUnit) : Word := waveAt l.wave (l.phase + l.ofs) l.held

/-- Restarted: PHASE, RNG and HELD as RESET leaves them (R378, R204). -/
def LfoUnit.restart (l : LfoUnit) : LfoUnit := { l with phase := 0, rng := l.seed, held := 0 }

/-- rte(v · 2^32) mod 2^32 of a finite v (R373). -/
def phaseOffset (v : Word) : Word :=
  let n : Int := (rte (units v * 2 ^ 32) (2 ^ 149) : Nat)
  BitVec.ofInt 32 (if v.sign then -n else n)

/-- LFOFRQ (R371). -/
def execLfofrq (ra : Reg) (u : UnitIx) (s : State) : Out :=
  frame (.lfofrq ra u) s fun w =>
    let n := lfoInc s.sr (s.reg ra)
    .next ((s.setLfo u { s.lfoAt u with rfreq := s.reg ra, inc := n.1 }).flag w n.2)

/-- LFOWAV (R372). -/
def execLfowav (wf : Waveform) (u : UnitIx) (s : State) : Out :=
  frame (.lfowav wf u) s fun _ => .next (s.setLfo u { s.lfoAt u with wave := wf })

/-- LFOOFS (R373). -/
def execLfoofs (ra : Reg) (u : UnitIx) (s : State) : Out :=
  frame (.lfoofs ra u) s fun w =>
    let v := s.reg ra
    .next ((s.setLfo u { s.lfoAt u with ofs := if isFinite v then phaseOffset v else 0 }).flag w
      (flagIf (!isFinite v) flagCLAMP))

/-- LFOTICK (R374). -/
def execLfotick (rd : Reg) (u : UnitIx) (s : State) : Out :=
  frame (.lfotick rd u) s fun _ =>
    let l := (s.lfoAt u).tick
    .next ((s.setLfo u l).setReg rd l.value)

/-- LFOSEED (R376). -/
def execLfoseed (ra : Reg) (u : UnitIx) (s : State) : Out :=
  frame (.lfoseed ra u) s fun w =>
    let v := if s.reg ra = 0 then 1 else s.reg ra
    .next ((s.setLfo u { s.lfoAt u with seed := v, rng := v }).flag w (flagIf (s.reg ra == 0) flagCLAMP))

/-- LFORDPH (R377). -/
def execLfordph (rd : Reg) (u : UnitIx) (s : State) : Out :=
  frame (.lfordph rd u) s fun _ => .next (s.setReg rd (s.lfoAt u).phase)

/-- LFORST (R378). -/
def execLforst (u : UnitIx) (s : State) : Out :=
  frame (.lforst u) s fun _ => .next (s.setLfo u (s.lfoAt u).restart)

end Sys2Proof.Machine
end

