-- ==== Sys2Proof/Machine/ParamGate.lean ====
section
/-! DEFINITION. The parameter-change detector: PGSET, PGCHK, PGGET (R461 to R463). -/

namespace Sys2Proof.Machine

/-- The change signal (R462): no valid last value, or another bit pattern. -/
def PgSlot.changed (p : PgSlot) : Bool := !p.valid || p.pval != p.last

/-- The slot re-armed by a check (R462). -/
def PgSlot.rearm (p : PgSlot) : PgSlot := { p with last := p.pval, valid := true }

/-- VALID cleared, LAST left as it is (R204, R70). -/
def PgSlot.clear (p : PgSlot) : PgSlot := { p with valid := false }

/-- PGSET (R461). -/
def execPgset (ra : Reg) (u : UnitIx) (s : State) : Out :=
  frame (.pgset ra u) s fun _ => .next (s.setPg u { s.pgAt u with pval := s.reg ra })

/-- PGCHK (R462). -/
def execPgchk (rd : Reg) (u : UnitIx) (s : State) : Out :=
  frame (.pgchk rd u) s fun _ =>
    .next ((s.setPg u (s.pgAt u).rearm).setReg rd (boolWord (s.pgAt u).changed))

/-- PGGET (R463). -/
def execPgget (rd : Reg) (u : UnitIx) (s : State) : Out :=
  frame (.pgget rd u) s fun _ => .next (s.setReg rd (s.pgAt u).pval)

end Sys2Proof.Machine
end

