-- ==== Sys2Proof/Machine/Control.lean ====
section
/-! DEFINITION. NOP (R200), PREPARE with RecomputeAll (R201, R202), and RESET with ResetDynamic (R203, R204). -/

namespace Sys2Proof.Machine

/-- A procedure run over every unit of a bank, with the flags of all. -/
def mapFlags {α : Type} (f : α → α × FlagSet) (v : List α) : List α × FlagSet :=
  (v.map fun x => (f x).1, (v.map fun x => (f x).2).foldl (· ||| ·) 0)

/-- RecomputeAll (a): a designed unit is designed again, an undesigned one is left (R202). -/
def recomputeBq (sr : Word) (b : BqUnit) : BqUnit × FlagSet := if b.designed then design sr b else (b, 0)

/-- RecomputeAll (b): both coefficient pairs and the window, `limit` being RMS_WIN_MAX (R202). -/
def recomputeEnv (limit : Nat) (sr : Word) (e : EnvUnit) : EnvUnit × FlagSet :=
  let a := envCoef sr e.rta
  let r := envCoef sr e.rtr
  let n := winSamples limit sr e.rwin
  ({ e with ac := a.1.1, ag := a.1.2, cfsa := sr, rc := r.1.1, rg := r.1.2, cfsr := sr, w := n.1 },
    a.2 ||| r.2 ||| n.2)

/-- RecomputeAll (c): the increment (R202). -/
def recomputeLfo (sr : Word) (l : LfoUnit) : LfoUnit × FlagSet :=
  ({ l with inc := (lfoInc sr l.rfreq).1 }, (lfoInc sr l.rfreq).2)

/-- `RecomputeAll()` at the state's SR (R202), and the flags of its clamps and checks. -/
def State.recomputeAll (s : State) : State × FlagSet :=
  let b := mapFlags (recomputeBq s.sr) s.bq
  let e := mapFlags (recomputeEnv s.limits.rmsWinMax s.sr) s.env
  let l := mapFlags (recomputeLfo s.sr) s.lfo
  ({ s with bq := b.1, env := e.1, lfo := l.1 }, b.2 ||| e.2 ||| l.2)

/-- `ResetDynamic()` (R204). -/
def State.resetDynamic (s : State) : State :=
  { s with
    bq := s.bq.map BqUnit.clear
    dl := s.dl.map DlUnit.clear
    dmem := []
    env := s.env.map EnvUnit.clear
    lfo := s.lfo.map LfoUnit.restart
    cv := s.cv.map CvUnit.clearStream
    pg := s.pg.map PgSlot.clear }

/-- maxBlock held in [1, 65536], with CLAMP where that changes it (R201). -/
def clampBlock (n : Nat) : Nat × FlagSet := (min (max n 1) 65536, flagIf (min (max n 1) 65536 != n) flagCLAMP)

/-- SR and MAXBLK written and PREPARED set (R201). -/
def State.setRate (s : State) (sr maxblk : Word) : State := { s with sr := sr, maxblk := maxblk, prepared := true }

/-- NOP (R200). -/
def execNop (s : State) : Out := frameAlways .nop s fun _ => .next s

/-- PREPARE (R201). -/
def execPrepare (ra rb : Reg) (s : State) : Out :=
  frameAlways (.prepare ra rb) s fun w =>
    let fs := clampP (s.reg ra) rowFS
    let mb := clampBlock (s.u32 rb)
    let r := (s.setRate fs.1 (BitVec.ofNat 32 mb.1)).recomputeAll
    .next (r.1.resetDynamic.flag w (fs.2 ||| mb.2 ||| r.2))

/-- RESET (R203). -/
def execReset (s : State) : Out := frameAlways .reset s fun _ => .next s.resetDynamic

end Sys2Proof.Machine
end

