-- ==== Sys2Proof/Machine/Glue.lean ====
section
/-! DEFINITION. The glue arithmetic FADD, FSUB, FMUL, FMAC and SCLIP (R205 to R209). -/

namespace Sys2Proof.Machine

/-- A glue command of two sample operands and a sample result (R205 to R207), by its binary32 operation. -/
def glue2 (i : Instr) (op : Word → Word → Word) (rd ra rb : Reg) (s : State) : Out :=
  frame i s fun w =>
    .next (s.putSample w rd (op (s.sample ra).1 (s.sample rb).1) ((s.sample ra).2 ||| (s.sample rb).2))

/-- FADD (R205). -/
def execFadd (rd ra rb : Reg) (s : State) : Out := glue2 (.fadd rd ra rb) fadd rd ra rb s

/-- FSUB (R206). -/
def execFsub (rd ra rb : Reg) (s : State) : Out := glue2 (.fsub rd ra rb) fsub rd ra rb s

/-- FMUL (R207). -/
def execFmul (rd ra rb : Reg) (s : State) : Out := glue2 (.fmul rd ra rb) fmul rd ra rb s

/-- FMAC (R208): the product is rounded before the sum. -/
def execFmac (rd ra rb rc : Reg) (s : State) : Out :=
  frame (.fmac rd ra rb rc) s fun w =>
    let a := s.sample ra
    let b := s.sample rb
    let c := s.sample rc
    .next (s.putSample w rd (fadd a.1 (fmul b.1 c.1)) (a.2 ||| b.2 ||| c.2))

/-- SCLIP (R209): tanh saturation. -/
def execSclip (rd ra : Reg) (s : State) : Out :=
  frame (.sclip rd ra) s fun w => .next (s.putSample w rd (tanh32 (s.sample ra).1) (s.sample ra).2)

end Sys2Proof.Machine
end

