-- ==== Sys2Proof/Machine/Dispatch.lean ====
section
/-! DEFINITION. exec: one arm a command, each one call of its meaning. -/

namespace Sys2Proof.Machine

def exec (i : Instr) (s : State) : Host.Outcome State Fault Refusal :=
  match i with
  | .nop => Sys2Proof.Machine.execNop s
  | .prepare ra rb => Sys2Proof.Machine.execPrepare ra rb s
  | .reset => Sys2Proof.Machine.execReset s
  | .fadd rd ra rb => Sys2Proof.Machine.execFadd rd ra rb s
  | .fsub rd ra rb => Sys2Proof.Machine.execFsub rd ra rb s
  | .fmul rd ra rb => Sys2Proof.Machine.execFmul rd ra rb s
  | .fmac rd ra rb rc => Sys2Proof.Machine.execFmac rd ra rb rc s
  | .sclip rd ra => Sys2Proof.Machine.execSclip rd ra s
  | .bqdes rd ra rb rc t u => Sys2Proof.Machine.execBqdes rd ra rb rc t u s
  | .bqproc rd ra c u => Sys2Proof.Machine.execBqproc rd ra c u s
  | .bqclr u => Sys2Proof.Machine.execBqclr u s
  | .bqrdc rd k u => Sys2Proof.Machine.execBqrdc rd k u s
  | .dlcfg ra rb u => Sys2Proof.Machine.execDlcfg ra rb u s
  | .dlwr ra u => Sys2Proof.Machine.execDlwr ra u s
  | .dlrdl rd ra u => Sys2Proof.Machine.execDlrdl rd ra u s
  | .dlrdc rd ra u => Sys2Proof.Machine.execDlrdc rd ra u s
  | .dlclr u => Sys2Proof.Machine.execDlclr u s
  | .envcfg pol det u => Sys2Proof.Machine.execEnvcfg pol det u s
  | .envatk rd ra u => Sys2Proof.Machine.execEnvatk rd ra u s
  | .envrel rd ra u => Sys2Proof.Machine.execEnvrel rd ra u s
  | .envwin ra u => Sys2Proof.Machine.execEnvwin ra u s
  | .envproc rd ra u => Sys2Proof.Machine.execEnvproc rd ra u s
  | .envdb rd ra => Sys2Proof.Machine.execEnvdb rd ra s
  | .envclr u => Sys2Proof.Machine.execEnvclr u s
  | .lfofrq ra u => Sys2Proof.Machine.execLfofrq ra u s
  | .lfowav w u => Sys2Proof.Machine.execLfowav w u s
  | .lfoofs ra u => Sys2Proof.Machine.execLfoofs ra u s
  | .lfotick rd u => Sys2Proof.Machine.execLfotick rd u s
  | .lfoseed ra u => Sys2Proof.Machine.execLfoseed ra u s
  | .lfordph rd u => Sys2Proof.Machine.execLfordph rd u s
  | .lforst u => Sys2Proof.Machine.execLforst u s
  | .cvcfg ra u => Sys2Proof.Machine.execCvcfg ra u s
  | .cvpush ra u => Sys2Proof.Machine.execCvpush ra u s
  | .cvload rd u => Sys2Proof.Machine.execCvload rd u s
  | .cvproc rd ra u => Sys2Proof.Machine.execCvproc rd ra u s
  | .cvlat rd u => Sys2Proof.Machine.execCvlat rd u s
  | .cvunld u => Sys2Proof.Machine.execCvunld u s
  | .cvclr u => Sys2Proof.Machine.execCvclr u s
  | .pgset ra u => Sys2Proof.Machine.execPgset ra u s
  | .pgchk rd u => Sys2Proof.Machine.execPgchk rd u s
  | .pgget rd u => Sys2Proof.Machine.execPgget rd u s

end Sys2Proof.Machine
end

