-- ==== Sys2Proof/Machine/Bus.lean ====
section
/-! DEFINITION. The register window (R51) and one bus access (R121, R122): the value a read returns, the effect of a
write, and the command a CMD write runs (R59, R172). -/

namespace Sys2Proof.Machine

/-- What stands at a word offset of the window (R51). -/
inductive WindowReg where
  | id | version | caps0 | caps1 | dmemsz | irmax | rmsmax
  | ctrl | status | irqen | errcmd | cmd | sr | maxblk | state
  | data (r : Reg)
  | reserved
  deriving DecidableEq, Repr

/-- The register map (R51, R63). -/
def windowReg (offset : Fin 256) : WindowReg :=
  match offset.val with
  | 0x00 => .id
  | 0x04 => .version
  | 0x08 => .caps0
  | 0x0C => .caps1
  | 0x10 => .dmemsz
  | 0x14 => .irmax
  | 0x18 => .rmsmax
  | 0x20 => .ctrl
  | 0x24 => .status
  | 0x28 => .irqen
  | 0x2C => .errcmd
  | 0x30 => .cmd
  | 0x34 => .sr
  | 0x38 => .maxblk
  | 0x3C => .state
  | n => if 0x40 ≤ n ∧ n < 0x60 ∧ n % 4 = 0 then .data (Fin.ofNat 8 ((n - 0x40) / 4)) else .reserved

/-- CAPS0: NBQ, NDL, NENV and NLFO, a byte each from bit 0 (R54). -/
def caps0 (p : Params) : Word := BitVec.ofNat 32 (p.nbq + p.ndl * 2 ^ 8 + p.nenv * 2 ^ 16 + p.nlfo * 2 ^ 24)
/-- CAPS1: NCV in bits 7:0, NPG in 15:8, NCH in 18:16 (R54). -/
def caps1 (p : Params) : Word := BitVec.ofNat 32 (p.ncv + p.npg * 2 ^ 8 + p.nch * 2 ^ 16)

/-- The value of an aligned 32-bit read (R51, R121): write-only and reserved offsets read 0. -/
def State.readReg (s : State) : WindowReg → Word
  | .id => 0x4A465832
  | .version => 0x00010000
  | .caps0 => caps0 s.params
  | .caps1 => caps1 s.params
  | .dmemsz => BitVec.ofNat 32 s.limits.dmemWords
  | .irmax => BitVec.ofNat 32 s.limits.irMaxLen
  | .rmsmax => BitVec.ofNat 32 s.limits.rmsWinMax
  | .ctrl => 0
  | .status => s.status.setWidth 32
  | .irqen => s.irqen.setWidth 32
  | .errcmd => s.errcmd
  | .cmd => 0
  | .sr => s.sr
  | .maxblk => s.maxblk
  | .state => if s.prepared then 1 else 0
  | .data r => s.reg r
  | .reserved => 0

/-- One word written to CMD (R172, R164): a legal word is its command, any other raises ILL. -/
def runCommand (w : Word) (s : State) : Out :=
  match decode s.params w with
  | .ok i => exec i s
  | .error _ => .next (s.raise flagILL w)

/-- The outcome with its next state passed on through `f`. -/
def mapNext (f : State → State) : Out → Out
  | .next s => .next (f s)
  | .fault r => .fault r
  | .refused r => .refused r

/-- A CMD write (R59): the command runs to completion, and the command index advances whatever it was (R52). -/
def writeCmd (w : Word) (s : State) : Out := mapNext (fun t => { t with ci := t.ci + 1 }) (runCommand w s)

/-- The effect of an aligned 32-bit write (R51, R121): CTRL bit 0 resets (R55), STATUS bits written 1 clear (R56), the
IRQEN bits and the data registers are replaced (R57, R53), CMD runs a command, any other offset ignores it (R63). -/
def State.writeReg (s : State) (v : Word) : WindowReg → Out
  | .ctrl => .next (if v.getLsbD 0 then s.hardwareReset else s)
  | .status => .next { s with status := s.status &&& ~~~(v.setWidth 7) }
  | .irqen => .next { s with irqen := v.setWidth 7 }
  | .cmd => writeCmd v s
  | .data r => .next (s.setReg r v)
  | .id | .version | .caps0 | .caps1 | .dmemsz | .irmax | .rmsmax => .next s
  | .errcmd | .sr | .maxblk | .state | .reserved => .next s

/-- The access is one aligned 32-bit word (R122). -/
def wordAccess (width : AccessWidth) (offset : Fin 256) : Bool := width == .word && offset.val % 4 == 0

/-- The value an access returns: none for a write, 0 for a refused read (R121, R122). -/
def accessData (s : State) : BusAccess → Option Word
  | .read width offset => some (if wordAccess width offset then s.readReg (windowReg offset) else 0)
  | .write _ _ _ => none

/-- The effect of an access (R121, R122). -/
def accessEffect (s : State) : BusAccess → Out
  | .read width offset => .next (if wordAccess width offset then s else s.flagBus)
  | .write width offset v => if wordAccess width offset then s.writeReg v (windowReg offset) else .next s.flagBus

/-- The host observes a step: the data it returned and the IRQ level after it (R16, R486, R527). -/
def State.observe (s : State) (data : Option Word) : State := { s with seen := ⟨data, s.irq⟩ :: s.seen }

/-- The next pending access is performed; with none pending the core is idle (R16, R495, log 8). -/
def busStep (s : State) : Out :=
  match s.pending with
  | [] => .next s
  | a :: rest =>
    let s' := { s with pending := rest }
    mapNext (fun t => t.observe (accessData s' a)) (accessEffect s' a)

/-- The host's next access is a write of the word w to CMD (offset 0x30, R51). -/
def State.issue (s : State) (w : Word) : State := { s with pending := .write .word 0x30 w :: s.pending }

end Sys2Proof.Machine
end

