-- ==== Sys2Proof/Machine/Step.lean ====
section
/-! DEFINITION. One step of the machine: the host's next bus access (R16). -/

namespace Sys2Proof.Machine

/-- One host step (R16): the oldest pending access, or nothing. -/
def step (s : State) : Host.Outcome State Fault Refusal := busStep s

/-- `s` with the instruction of `nbits` bits `w` as the next thing step performs: the host's next access writes the word
to CMD (log 7). -/
def State.withFetchWord (s : State) (nbits w : Nat) : State := s.issue (BitVec.ofNat 32 (w % 2 ^ nbits))

end Sys2Proof.Machine
end

