-- ==== Sys2Proof/Safety.lean ====
section
/-! DEFINITION. What claims are stated in: the exact value of a word (R8) and rounding to nearest even (R10, R11), the
state invariants of R72 and of the unit tables (R60 to R70), the no-error condition of R496, what a command may change
(R53, R126, R127, R166, R480), the opcode and register maps as the spec lists them (R165, R51), and runs of commands. -/

namespace Sys2Proof.Machine

/-- The exact value of a finite binary32 word (R8). -/
def value (w : Word) : ℚ := (sunits w : ℚ) / 2 ^ 149

/-- The rounding threshold of binary32: from here on roundTiesToEven gives an infinity (R10). -/
def overflowBound : ℚ := 2 ^ 128 - 2 ^ 103

/-- `w` is the binary32 nearest to `r`, of two equally near the one whose last bit is 0 (R10, R11). -/
def IsNearestEven (r : ℚ) (w : Word) : Prop :=
  isFinite w = true ∧ ∀ v, isFinite v = true →
    |r - value w| ≤ |r - value v| ∧ (|r - value w| = |r - value v| → value v = value w ∨ w.getLsbD 0 = false)

/-- R496: no refusal is marked, the premise of a "no error occurred" claim. -/
def State.NoError (s : State) : Prop := s.status &&& (flagILL ||| flagSEQ ||| flagBUS) = 0

/-- Every listed word of a store is finite (+0.0, what an unlisted address reads as, is). -/
def Mem.Finite (m : Mem) : Prop := ∀ c ∈ m, isFinite c.2 = true

/-- Every listed address of a store is below n. -/
def Mem.Below (m : Mem) (n : Nat) : Prop := ∀ c ∈ m, c.1 < n

/-- A biquad unit of nch channels in a reachable state: finite channel state (R72 (i)), the cells past the last channel
+0.0, coefficients finite and never -0 (R64, R255), and the passthrough set while undesigned (R64). -/
structure BqUnit.Inv (nch : Nat) (b : BqUnit) : Prop where
  z1 : ∀ z ∈ b.z1, isFinite z = true
  z2 : ∀ z ∈ b.z2, isFinite z = true
  absent : ∀ c : ChanIx, nch ≤ c.val → b.z1.get c = 0 ∧ b.z2.get c = 0
  coefs : ∀ k, isFinite (b.coef k) = true ∧ b.coef k ≠ 0x80000000
  undesigned : b.designed = false → b.b0 = f1 ∧ b.b1 = 0 ∧ b.b2 = 0 ∧ b.a1 = 0 ∧ b.a2 = 0

/-- A delay unit in a reachable state, in a DMEM of `words` words (R65, R72 (ii)). -/
structure DlUnit.Inv (words : Nat) (d : DlUnit) : Prop where
  cap : 3 ≤ d.cap
  region : d.base + d.cap ≤ words
  wi : d.wi < d.cap

/-- An envelope unit in a reachable state, `limit` being RMS_WIN_MAX (R67, R72 (i), (iii)). -/
structure EnvUnit.Inv (limit : Nat) (e : EnvUnit) : Prop where
  window : e.w ≤ limit
  ridx : e.ridx < e.w
  ringWf : e.ring.wf
  ringFinite : e.ring.Finite
  ringBelow : e.ring.Below e.w
  sum : isFinite e.sum = true
  level : isFinite e.level = true
  levelSign : e.level.sign = false

/-- A coefficient pair as EnvCoef leaves it: c in [2^-126, 1 - 2^-24] and g = 1 -f c (R332, R72 (vi)). -/
def IsEnvPair (c g : Word) : Prop := fLe fMinCoef c = true ∧ fLe c fMaxCoef = true ∧ g = fsub f1 c

/-- An LFO unit in a reachable state (R68, R72 (v)). -/
structure LfoUnit.Inv (l : LfoUnit) : Prop where
  inc : l.inc.toNat ≤ 2 ^ 31
  seed : l.seed ≠ 0
  rng : l.rng ≠ 0
  held : fLe (fabs l.held) f1 = true

/-- A convolver unit in a reachable state (R69, R72 (i), (iv)): the stored words are finite, and INB holds the inputs
of the current block, the newest N of HIST; `limit` is IR_MAX_LEN. -/
structure CvUnit.Inv (limit : Nat) (c : CvUnit) : Prop where
  blk : c.blk ∈ blockSizes
  n : c.n < c.blk
  position : c.n = c.hist.length % c.blk
  inbWf : c.inb.wf
  inbFinite : c.inb.Finite
  inbBelow : c.inb.Below c.blk
  inbHist : ∀ i, i < c.n → c.inb.read i = c.hist.getD (c.n - 1 - i) 0
  outbWf : c.outb.wf
  outbFinite : c.outb.Finite
  outbBelow : c.outb.Below c.blk
  hist : ∀ x ∈ c.hist, isFinite x = true
  ir : ∀ h ∈ c.ir, isFinite h = true
  irLength : c.ir.length ≤ limit
  irLoaded : c.loaded = true → c.ir ≠ []
  stgLength : c.stg.length ≤ limit

/-- The invariants of R72, with those the field tables of R60 to R69 state, and the legal ranges of R6. -/
structure State.Inv (s : State) : Prop where
  params : s.params.Legal
  rate : fLe rowFS.lo s.sr = true ∧ fLe s.sr rowFS.hi = true
  maxblk : s.prepared = true → 1 ≤ s.maxblk.toNat ∧ s.maxblk.toNat ≤ 65536
  bq : ∀ b ∈ s.bq, b.Inv s.limits.nch
  dl : ∀ d ∈ s.dl, d.Inv s.limits.dmemWords
  dmemWf : s.dmem.wf
  dmemFinite : s.dmem.Finite
  dmemBelow : s.dmem.Below s.limits.dmemWords
  env : ∀ e ∈ s.env, e.Inv s.limits.rmsWinMax
  envPairs : s.prepared = true → ∀ e ∈ s.env, IsEnvPair e.ac e.ag ∧ IsEnvPair e.rc e.rg
  lfo : ∀ l ∈ s.lfo, l.Inv
  cv : ∀ c ∈ s.cv, c.Inv s.limits.irMaxLen

/-- The coefficients in force were computed at the prepared rate (R202, R252, R338, R339). -/
structure State.AtRate (s : State) : Prop where
  bq : s.prepared = true → ∀ b ∈ s.bq, b.designed = true → b.cfs = s.sr
  env : s.prepared = true → ∀ e ∈ s.env, e.cfsa = s.sr ∧ e.cfsr = s.sr

/-- The state outside the register window's flags and data registers, by the part that holds it. -/
inductive Bank where
  | bq | dl | dmem | env | lfo | cv | pg
  deriving DecidableEq, Repr

/-- A bank is the same in two states. -/
def Bank.Same (s t : State) : Bank → Prop
  | .bq => t.bq = s.bq
  | .dl => t.dl = s.dl
  | .dmem => t.dmem = s.dmem
  | .env => t.env = s.env
  | .lfo => t.lfo = s.lfo
  | .cv => t.cv = s.cv
  | .pg => t.pg = s.pg

/-- The parameters, IRQEN, SR, MAXBLK and PREPARED, and the model's host side, are the same in two states. -/
structure SameGlobal (s t : State) : Prop where
  params : t.params = s.params
  irqen : t.irqen = s.irqen
  sr : t.sr = s.sr
  maxblk : t.maxblk = s.maxblk
  prepared : t.prepared = s.prepared
  pending : t.pending = s.pending
  ci : t.ci = s.ci
  seen : t.seen = s.seen

/-- Everything outside the data registers, STATUS, ERRCMD and the listed banks is the same in two states. -/
def KeepsExcept (banks : List Bank) (s t : State) : Prop := SameGlobal s t ∧ ∀ k, k ∉ banks → k.Same s t

/-- Every data register but rd is the same in two states. -/
def OnlyReg (rd : Reg) (s t : State) : Prop := ∀ r, r ≠ rd → t.reg r = s.reg r

/-- No data register differs between two states. -/
def SameRegs (s t : State) : Prop := ∀ r, t.reg r = s.reg r

/-- The command of word w flagged exactly the flags f (R483, R58). -/
def Flagged (w : Word) (f : FlagSet) (s t : State) : Prop :=
  t.status = s.status ||| f ∧ t.errcmd = if f = 0 then s.errcmd else w

/-- The biquad units other than u are the same in two states. -/
def OnlyBq (u : UnitIx) (s t : State) : Prop := ∀ v, v ≠ u → t.bqAt v = s.bqAt v
/-- The delay units other than u are the same in two states. -/
def OnlyDl (u : UnitIx) (s t : State) : Prop := ∀ v, v ≠ u → t.dlAt v = s.dlAt v
/-- The envelope units other than u are the same in two states. -/
def OnlyEnv (u : UnitIx) (s t : State) : Prop := ∀ v, v ≠ u → t.envAt v = s.envAt v
/-- The LFO units other than u are the same in two states. -/
def OnlyLfo (u : UnitIx) (s t : State) : Prop := ∀ v, v ≠ u → t.lfoAt v = s.lfoAt v
/-- The convolver units other than u are the same in two states. -/
def OnlyCv (u : UnitIx) (s t : State) : Prop := ∀ v, v ≠ u → t.cvAt v = s.cvAt v
/-- The gate slots other than u are the same in two states. -/
def OnlyPg (u : UnitIx) (s t : State) : Prop := ∀ v, v ≠ u → t.pgAt v = s.pgAt v

end Sys2Proof.Machine

namespace Sys2Proof

open Sys2Proof.Machine

/-- The data register a command writes, the D entries of R166. -/
def Instr.dest : Instr → Option Reg
  | .nop | .prepare _ _ | .reset => none
  | .fadd rd _ _ | .fsub rd _ _ | .fmul rd _ _ | .fmac rd _ _ _ | .sclip rd _ => some rd
  | .bqdes rd _ _ _ _ _ | .bqproc rd _ _ _ | .bqrdc rd _ _ => some rd
  | .bqclr _ => none
  | .dlcfg _ _ _ | .dlwr _ _ | .dlclr _ => none
  | .dlrdl rd _ _ | .dlrdc rd _ _ => some rd
  | .envcfg _ _ _ | .envwin _ _ | .envclr _ => none
  | .envatk rd _ _ | .envrel rd _ _ | .envproc rd _ _ | .envdb rd _ => some rd
  | .lfofrq _ _ | .lfowav _ _ | .lfoofs _ _ | .lfoseed _ _ | .lforst _ => none
  | .lfotick rd _ | .lfordph rd _ => some rd
  | .cvcfg _ _ | .cvpush _ _ | .cvunld _ | .cvclr _ => none
  | .cvload rd _ | .cvproc rd _ _ | .cvlat rd _ => some rd
  | .pgset _ _ => none
  | .pgchk rd _ | .pgget rd _ => some rd

/-- The flags a command may set while it executes, the "Flags" line of its rule (R480). -/
def Instr.mayFlag : Instr → FlagSet
  | .nop | .reset => 0
  | .prepare _ _ => flagCLAMP ||| flagRSRC ||| flagNUM
  | .fadd _ _ _ | .fsub _ _ _ | .fmul _ _ _ | .fmac _ _ _ _ | .sclip _ _ => flagNUM
  | .bqdes _ _ _ _ _ _ => flagCLAMP ||| flagNUM
  | .bqproc _ _ _ _ => flagNUM
  | .bqclr _ | .bqrdc _ _ _ => 0
  | .dlcfg _ _ _ => flagRSRC
  | .dlwr _ _ => flagNUM
  | .dlrdl _ _ _ | .dlrdc _ _ _ => flagCLAMP ||| flagRSRC ||| flagNUM
  | .dlclr _ => 0
  | .envcfg _ _ _ | .envclr _ => 0
  | .envatk _ _ _ | .envrel _ _ _ => flagCLAMP
  | .envwin _ _ => flagCLAMP ||| flagRSRC
  | .envproc _ _ _ | .envdb _ _ => flagNUM
  | .lfofrq _ _ | .lfoofs _ _ | .lfoseed _ _ => flagCLAMP
  | .lfowav _ _ | .lfotick _ _ | .lfordph _ _ | .lforst _ => 0
  | .cvcfg _ _ => flagCLAMP
  | .cvpush _ _ => flagRSRC
  | .cvload _ _ => flagFMT
  | .cvproc _ _ _ => flagNUM
  | .cvlat _ _ | .cvunld _ | .cvclr _ => 0
  | .pgset _ _ | .pgchk _ _ | .pgget _ _ => 0

/-- The banks a command may write; PREPARE and RESET reach every one (R126, R127, R204). -/
def Instr.banks : Instr → List Bank
  | .prepare _ _ | .reset => [.bq, .dl, .dmem, .env, .lfo, .cv, .pg]
  | .nop | .fadd _ _ _ | .fsub _ _ _ | .fmul _ _ _ | .fmac _ _ _ _ | .sclip _ _ | .envdb _ _ => []
  | .bqdes _ _ _ _ _ _ | .bqproc _ _ _ _ | .bqclr _ => [.bq]
  | .bqrdc _ _ _ | .dlrdl _ _ _ | .dlrdc _ _ _ | .lfordph _ _ | .cvlat _ _ | .pgget _ _ => []
  | .dlcfg _ _ _ | .dlwr _ _ | .dlclr _ => [.dl, .dmem]
  | .envcfg _ _ _ | .envatk _ _ _ | .envrel _ _ _ | .envwin _ _ | .envproc _ _ _ | .envclr _ => [.env]
  | .lfofrq _ _ | .lfowav _ _ | .lfoofs _ _ | .lfotick _ _ | .lfoseed _ _ | .lforst _ => [.lfo]
  | .cvcfg _ _ | .cvpush _ _ | .cvload _ _ | .cvproc _ _ _ | .cvunld _ | .cvclr _ => [.cv]
  | .pgset _ _ | .pgchk _ _ => [.pg]

/-- PREPARE or RESET, the two commands that act on every unit. -/
def Instr.global : Instr → Bool
  | .prepare _ _ | .reset => true
  | .nop | .fadd _ _ _ | .fsub _ _ _ | .fmul _ _ _ | .fmac _ _ _ _ | .sclip _ _
  | .bqdes _ _ _ _ _ _ | .bqproc _ _ _ _ | .bqclr _ | .bqrdc _ _ _
  | .dlcfg _ _ _ | .dlwr _ _ | .dlrdl _ _ _ | .dlrdc _ _ _ | .dlclr _
  | .envcfg _ _ _ | .envatk _ _ _ | .envrel _ _ _ | .envwin _ _ | .envproc _ _ _ | .envdb _ _ | .envclr _
  | .lfofrq _ _ | .lfowav _ _ | .lfoofs _ _ | .lfotick _ _ | .lfoseed _ _ | .lfordph _ _ | .lforst _
  | .cvcfg _ _ | .cvpush _ _ | .cvload _ _ | .cvproc _ _ _ | .cvlat _ _ | .cvunld _ | .cvclr _
  | .pgset _ _ | .pgchk _ _ | .pgget _ _ => false

/-- A configuration command, by R210's list. -/
def Instr.configures : Instr → Bool
  | .prepare _ _ | .bqdes _ _ _ _ _ _ | .dlcfg _ _ _ | .envcfg _ _ _ | .envatk _ _ _ | .envrel _ _ _ | .envwin _ _
  | .lfofrq _ _ | .lfowav _ _ | .lfoofs _ _ | .lfoseed _ _ | .cvcfg _ _ | .cvpush _ _ | .cvload _ _ | .cvunld _
  | .pgset _ _ => true
  | .nop | .reset | .fadd _ _ _ | .fsub _ _ _ | .fmul _ _ _ | .fmac _ _ _ _ | .sclip _ _
  | .bqproc _ _ _ _ | .bqclr _ | .bqrdc _ _ _
  | .dlwr _ _ | .dlrdl _ _ _ | .dlrdc _ _ _ | .dlclr _ | .envproc _ _ _ | .envdb _ _ | .envclr _
  | .lfotick _ _ | .lfordph _ _ | .lforst _ | .cvproc _ _ _ | .cvlat _ _ | .cvclr _ | .pgchk _ _ | .pgget _ _ => false

/-- A command exempt from SEQ: NOP, PREPARE or RESET (R172). -/
def Instr.always (i : Instr) : Bool := i == .nop || i.global

/-- The mnemonic of a command (R165). -/
def Instr.mnemonic : Instr → String
  | .nop => "NOP"
  | .prepare _ _ => "PREPARE"
  | .reset => "RESET"
  | .fadd _ _ _ => "FADD"
  | .fsub _ _ _ => "FSUB"
  | .fmul _ _ _ => "FMUL"
  | .fmac _ _ _ _ => "FMAC"
  | .sclip _ _ => "SCLIP"
  | .bqdes _ _ _ _ _ _ => "BQDES"
  | .bqproc _ _ _ _ => "BQPROC"
  | .bqclr _ => "BQCLR"
  | .bqrdc _ _ _ => "BQRDC"
  | .dlcfg _ _ _ => "DLCFG"
  | .dlwr _ _ => "DLWR"
  | .dlrdl _ _ _ => "DLRDL"
  | .dlrdc _ _ _ => "DLRDC"
  | .dlclr _ => "DLCLR"
  | .envcfg _ _ _ => "ENVCFG"
  | .envatk _ _ _ => "ENVATK"
  | .envrel _ _ _ => "ENVREL"
  | .envwin _ _ => "ENVWIN"
  | .envproc _ _ _ => "ENVPROC"
  | .envdb _ _ => "ENVDB"
  | .envclr _ => "ENVCLR"
  | .lfofrq _ _ => "LFOFRQ"
  | .lfowav _ _ => "LFOWAV"
  | .lfoofs _ _ => "LFOOFS"
  | .lfotick _ _ => "LFOTICK"
  | .lfoseed _ _ => "LFOSEED"
  | .lfordph _ _ => "LFORDPH"
  | .lforst _ => "LFORST"
  | .cvcfg _ _ => "CVCFG"
  | .cvpush _ _ => "CVPUSH"
  | .cvload _ _ => "CVLOAD"
  | .cvproc _ _ _ => "CVPROC"
  | .cvlat _ _ => "CVLAT"
  | .cvunld _ => "CVUNLD"
  | .cvclr _ => "CVCLR"
  | .pgset _ _ => "PGSET"
  | .pgchk _ _ => "PGCHK"
  | .pgget _ _ => "PGGET"

/-- A row of the opcode map of R165: match and mask, and the limits the FN, CH and U fields stay below (16, 4 and 256
where R165 gives none). -/
structure OpRow where
  mnemonic : String
  matchWord : Word
  mask : Word
  fnLimit : Nat
  chLimit : Nat
  unitLimit : Nat
  deriving DecidableEq, Repr

/-- The opcode map of R165 for a core with parameters p (R6), with the FN sets of R171. -/
def opTable (p : Params) : List OpRow :=
  [⟨"NOP", 0x00000000, 0xFFFFFFFF, 16, 4, 256⟩,
    ⟨"PREPARE", 0x04000000, 0xFF81FFFF, 16, 4, 256⟩,
    ⟨"RESET", 0x08000000, 0xFFFFFFFF, 16, 4, 256⟩,
    ⟨"FADD", 0x0C000000, 0xFC01FFFF, 16, 4, 256⟩,
    ⟨"FSUB", 0x10000000, 0xFC01FFFF, 16, 4, 256⟩,
    ⟨"FMUL", 0x14000000, 0xFC01FFFF, 16, 4, 256⟩,
    ⟨"FMAC", 0x18000000, 0xFC003FFF, 16, 4, 256⟩,
    ⟨"SCLIP", 0x1C000000, 0xFC0FFFFF, 16, 4, 256⟩]
  ++ [⟨"BQDES", 0x20000000, 0xFC003000, 8, 4, p.nbq⟩,
    ⟨"BQPROC", 0x24000000, 0xFC0FCF00, 16, p.nch, p.nbq⟩,
    ⟨"BQCLR", 0x28000000, 0xFFFFFF00, 16, 4, p.nbq⟩,
    ⟨"BQRDC", 0x2C000000, 0xFC7FF000, 5, 4, p.nbq⟩]
  ++ [⟨"DLCFG", 0x40000000, 0xFF81FF00, 16, 4, p.ndl⟩,
    ⟨"DLWR", 0x44000000, 0xFF8FFF00, 16, 4, p.ndl⟩,
    ⟨"DLRDL", 0x48000000, 0xFC0FFF00, 16, 4, p.ndl⟩,
    ⟨"DLRDC", 0x4C000000, 0xFC0FFF00, 16, 4, p.ndl⟩,
    ⟨"DLCLR", 0x50000000, 0xFFFFFF00, 16, 4, p.ndl⟩]
  ++ [⟨"ENVCFG", 0x60000000, 0xFFFFFC00, 4, 4, p.nenv⟩,
    ⟨"ENVATK", 0x64000000, 0xFC0FFF00, 16, 4, p.nenv⟩,
    ⟨"ENVREL", 0x68000000, 0xFC0FFF00, 16, 4, p.nenv⟩,
    ⟨"ENVWIN", 0x6C000000, 0xFF8FFF00, 16, 4, p.nenv⟩,
    ⟨"ENVPROC", 0x70000000, 0xFC0FFF00, 16, 4, p.nenv⟩,
    ⟨"ENVDB", 0x74000000, 0xFC0FFFFF, 16, 4, 256⟩,
    ⟨"ENVCLR", 0x78000000, 0xFFFFFF00, 16, 4, p.nenv⟩]
  ++ [⟨"LFOFRQ", 0x80000000, 0xFF8FFF00, 16, 4, p.nlfo⟩,
    ⟨"LFOWAV", 0x84000000, 0xFFFFF000, 5, 4, p.nlfo⟩,
    ⟨"LFOOFS", 0x88000000, 0xFF8FFF00, 16, 4, p.nlfo⟩,
    ⟨"LFOTICK", 0x8C000000, 0xFC7FFF00, 16, 4, p.nlfo⟩,
    ⟨"LFOSEED", 0x90000000, 0xFF8FFF00, 16, 4, p.nlfo⟩,
    ⟨"LFORDPH", 0x94000000, 0xFC7FFF00, 16, 4, p.nlfo⟩,
    ⟨"LFORST", 0x98000000, 0xFFFFFF00, 16, 4, p.nlfo⟩]
  ++ [⟨"CVCFG", 0xA0000000, 0xFF8FFF00, 16, 4, p.ncv⟩,
    ⟨"CVPUSH", 0xA4000000, 0xFF8FFF00, 16, 4, p.ncv⟩,
    ⟨"CVLOAD", 0xA8000000, 0xFC7FFF00, 16, 4, p.ncv⟩,
    ⟨"CVPROC", 0xAC000000, 0xFC0FFF00, 16, 4, p.ncv⟩,
    ⟨"CVLAT", 0xB0000000, 0xFC7FFF00, 16, 4, p.ncv⟩,
    ⟨"CVUNLD", 0xB4000000, 0xFFFFFF00, 16, 4, p.ncv⟩,
    ⟨"CVCLR", 0xB8000000, 0xFFFFFF00, 16, 4, p.ncv⟩]
  ++ [⟨"PGSET", 0xC0000000, 0xFF8FFF00, 16, 4, p.npg⟩,
    ⟨"PGCHK", 0xC4000000, 0xFC7FFF00, 16, 4, p.npg⟩,
    ⟨"PGGET", 0xC8000000, 0xFC7FFF00, 16, 4, p.npg⟩]

/-- The word is the row's command (R165): masked equality and the three ranges. -/
def OpRow.Accepts (r : OpRow) (w : Word) : Prop :=
  w &&& r.mask = r.matchWord ∧ w.toNat / 2 ^ 8 % 16 < r.fnLimit ∧ w.toNat / 2 ^ 12 % 4 < r.chLimit ∧
  w.toNat % 256 < r.unitLimit

end Sys2Proof

namespace Sys2Proof.Machine

/-- What a host program does between reads: issue a command, or load a data register (R170). -/
inductive HostOp where
  | command (i : Instr)
  | load (r : Reg) (v : Word)
  deriving DecidableEq, Repr

/-- A host program's commands and loads in order, stopping where one stops. -/
def runOps : List HostOp → State → Out
  | [], s => .next s
  | .load r v :: ops, s => runOps ops (s.setReg r v)
  | .command i :: ops, s =>
    match exec i s with
    | .next t => runOps ops t
    | .fault r => .fault r
    | .refused r => .refused r

/-- The command i completes in s: exec answers a next state, in which it flagged exactly `f`, changed nothing outside
the data registers and the listed banks, and which meets `post`. -/
def Completes (i : Instr) (s : State) (f : FlagSet) (banks : List Bank) (post : State → Prop) : Prop :=
  ∃ t, exec i s = .next t ∧ Flagged (encode i) f s t ∧ KeepsExcept banks s t ∧ post t

/-- The command wrote v to rd and no other data register (R53). -/
def Writes (rd : Reg) (v : Word) (s t : State) : Prop := t.reg rd = v ∧ OnlyReg rd s t

/-- The encoding and exceptions lines of a command's rule: the word has the fields `f` (R161, R165, R166); an illegal
command raises ILL, and a legal one on a core that is not prepared raises SEQ, with no other effect (R172, R482). -/
def ObeysFrame (i : Instr) (f : Fields) (s : State) : Prop :=
  Fields.ofWord (encode i) = f ∧
  (i.wf s.params = false → exec i s = .next { s with status := s.status ||| flagILL, errcmd := encode i }) ∧
  (i.wf s.params = true → s.prepared = false →
    exec i s = .next { s with status := s.status ||| flagSEQ, errcmd := encode i })

/-- The dynamic state of t is cleared and its configuration is that of s (R204). -/
structure DynamicCleared (s t : State) : Prop where
  bq : ∀ u : UnitIx, u.val < s.bq.length →
    t.bqAt u = { s.bqAt u with z1 := Vector.replicate 4 0, z2 := Vector.replicate 4 0 }
  dl : ∀ u : UnitIx, u.val < s.dl.length → t.dlAt u = { s.dlAt u with wi := 0 }
  dmem : ∀ a, t.dmem.read a = 0
  env : ∀ u : UnitIx, u.val < s.env.length →
    t.envAt u = { s.envAt u with level := 0, ridx := 0, sum := 0, ring := [] }
  lfo : ∀ u : UnitIx, u.val < s.lfo.length →
    t.lfoAt u = { s.lfoAt u with phase := 0, rng := (s.lfoAt u).seed, held := 0 }
  cv : ∀ u : UnitIx, u.val < s.cv.length → t.cvAt u = { s.cvAt u with n := 0, inb := [], outb := [], hist := [] }
  pg : ∀ u : UnitIx, u.val < s.pg.length → t.pgAt u = { s.pgAt u with valid := false }

/-- The stream of a convolver unit is cleared (R414). -/
def CvUnit.Cleared (c : CvUnit) : Prop := c.n = 0 ∧ c.inb = [] ∧ c.outb = [] ∧ c.hist = []

/-- What an aligned 32-bit read returns, as the register map of R51 and R54 lists it. -/
def windowValue (s : State) (offset : Nat) : Word :=
  if offset = 0x00 then 0x4A465832
  else if offset = 0x04 then 0x00010000
  else if offset = 0x08 then
    BitVec.ofNat 32 (2 ^ 24 * s.params.nlfo + 2 ^ 16 * s.params.nenv + 2 ^ 8 * s.params.ndl + s.params.nbq)
  else if offset = 0x0C then BitVec.ofNat 32 (2 ^ 16 * s.params.nch + 2 ^ 8 * s.params.npg + s.params.ncv)
  else if offset = 0x10 then BitVec.ofNat 32 s.params.dmemWords
  else if offset = 0x14 then BitVec.ofNat 32 s.params.irMaxLen
  else if offset = 0x18 then BitVec.ofNat 32 s.params.rmsWinMax
  else if offset = 0x24 then s.status.setWidth 32
  else if offset = 0x28 then s.irqen.setWidth 32
  else if offset = 0x2C then s.errcmd
  else if offset = 0x34 then s.sr
  else if offset = 0x38 then s.maxblk
  else if offset = 0x3C then (if s.prepared then 1 else 0)
  else if 0x40 ≤ offset ∧ offset < 0x60 then s.reg (Fin.ofNat 8 ((offset - 0x40) / 4))
  else 0

/-- What an aligned 32-bit write at an offset other than CMD's leaves, as R51, R55, R56, R57 and R63 list it. -/
def windowWrite (s : State) (offset : Nat) (v : Word) : State :=
  if offset = 0x20 then
    (if v.getLsbD 0 then { State.resetOf s.params with pending := s.pending, ci := s.ci, seen := s.seen } else s)
  else if offset = 0x24 then { s with status := s.status &&& ~~~(v.setWidth 7) }
  else if offset = 0x28 then { s with irqen := v.setWidth 7 }
  else if 0x40 ≤ offset ∧ offset < 0x60 then s.setReg (Fin.ofNat 8 ((offset - 0x40) / 4)) v
  else s

/-- R386, T[0..63]. -/
def sineListing0 : List Word :=
  [0x00000000, 0x3BC90F88, 0x3C490E90, 0x3C96C9B6, 0x3CC90AB0, 0x3CFB49BA, 0x3D16C32C, 0x3D2FE007,
   0x3D48FB30, 0x3D621469, 0x3D7B2B74, 0x3D8A200A, 0x3D96A905, 0x3DA3308C, 0x3DAFB680, 0x3DBC3AC3,
   0x3DC8BD36, 0x3DD53DB9, 0x3DE1BC2E, 0x3DEE3876, 0x3DFAB273, 0x3E039502, 0x3E09CF86, 0x3E1008B7,
   0x3E164083, 0x3E1C76DE, 0x3E22ABB6, 0x3E28DEFC, 0x3E2F10A2, 0x3E354098, 0x3E3B6ECF, 0x3E419B37,
   0x3E47C5C2, 0x3E4DEE60, 0x3E541501, 0x3E5A3997, 0x3E605C13, 0x3E667C66, 0x3E6C9A7F, 0x3E72B651,
   0x3E78CFCC, 0x3E7EE6E1, 0x3E827DC0, 0x3E8586CE, 0x3E888E93, 0x3E8B9507, 0x3E8E9A22, 0x3E919DDD,
   0x3E94A031, 0x3E97A117, 0x3E9AA086, 0x3E9D9E78, 0x3EA09AE5, 0x3EA395C5, 0x3EA68F12, 0x3EA986C4,
   0x3EAC7CD4, 0x3EAF713A, 0x3EB263EF, 0x3EB554EC, 0x3EB8442A, 0x3EBB31A0, 0x3EBE1D4A, 0x3EC1071E]

/-- R386, T[64..127]. -/
def sineListing1 : List Word :=
  [0x3EC3EF15, 0x3EC6D529, 0x3EC9B953, 0x3ECC9B8B, 0x3ECF7BCA, 0x3ED25A09, 0x3ED53641, 0x3ED8106B,
   0x3EDAE880, 0x3EDDBE79, 0x3EE0924F, 0x3EE363FA, 0x3EE63375, 0x3EE900B7, 0x3EEBCBBB, 0x3EEE9479,
   0x3EF15AEA, 0x3EF41F07, 0x3EF6E0CB, 0x3EF9A02D, 0x3EFC5D27, 0x3EFF17B2, 0x3F00E7E4, 0x3F0242B1,
   0x3F039C3D, 0x3F04F484, 0x3F064B82, 0x3F07A136, 0x3F08F59B, 0x3F0A48AD, 0x3F0B9A6B, 0x3F0CEAD0,
   0x3F0E39DA, 0x3F0F8784, 0x3F10D3CD, 0x3F121EB0, 0x3F13682A, 0x3F14B039, 0x3F15F6D9, 0x3F173C07,
   0x3F187FC0, 0x3F19C200, 0x3F1B02C6, 0x3F1C420C, 0x3F1D7FD1, 0x3F1EBC12, 0x3F1FF6CB, 0x3F212FF9,
   0x3F226799, 0x3F239DA9, 0x3F24D225, 0x3F26050A, 0x3F273656, 0x3F286605, 0x3F299415, 0x3F2AC082,
   0x3F2BEB4A, 0x3F2D1469, 0x3F2E3BDE, 0x3F2F61A5, 0x3F3085BB, 0x3F31A81D, 0x3F32C8C9, 0x3F33E7BC]

/-- R386, T[128..191]. -/
def sineListing2 : List Word :=
  [0x3F3504F3, 0x3F36206C, 0x3F373A23, 0x3F385216, 0x3F396842, 0x3F3A7CA4, 0x3F3B8F3B, 0x3F3CA003,
   0x3F3DAEF9, 0x3F3EBC1B, 0x3F3FC767, 0x3F40D0DA, 0x3F41D870, 0x3F42DE29, 0x3F43E200, 0x3F44E3F5,
   0x3F45E403, 0x3F46E22A, 0x3F47DE65, 0x3F48D8B3, 0x3F49D112, 0x3F4AC77F, 0x3F4BBBF8, 0x3F4CAE79,
   0x3F4D9F02, 0x3F4E8D90, 0x3F4F7A1F, 0x3F5064AF, 0x3F514D3D, 0x3F5233C6, 0x3F531849, 0x3F53FAC3,
   0x3F54DB31, 0x3F55B993, 0x3F5695E5, 0x3F577026, 0x3F584853, 0x3F591E6A, 0x3F59F26A, 0x3F5AC450,
   0x3F5B941A, 0x3F5C61C7, 0x3F5D2D53, 0x3F5DF6BE, 0x3F5EBE05, 0x3F5F8327, 0x3F604621, 0x3F6106F2,
   0x3F61C598, 0x3F628210, 0x3F633C5A, 0x3F63F473, 0x3F64AA59, 0x3F655E0B, 0x3F660F88, 0x3F66BECC,
   0x3F676BD8, 0x3F6816A8, 0x3F68BF3C, 0x3F696591, 0x3F6A09A7, 0x3F6AAB7B, 0x3F6B4B0C, 0x3F6BE858]

/-- R386, T[192..255]. -/
def sineListing3 : List Word :=
  [0x3F6C835E, 0x3F6D1C1D, 0x3F6DB293, 0x3F6E46BE, 0x3F6ED89E, 0x3F6F6830, 0x3F6FF573, 0x3F708066,
   0x3F710908, 0x3F718F57, 0x3F721352, 0x3F7294F8, 0x3F731447, 0x3F73913F, 0x3F740BDD, 0x3F748422,
   0x3F74FA0B, 0x3F756D97, 0x3F75DEC6, 0x3F764D97, 0x3F76BA07, 0x3F772417, 0x3F778BC5, 0x3F77F110,
   0x3F7853F8, 0x3F78B47B, 0x3F791298, 0x3F796E4E, 0x3F79C79D, 0x3F7A1E84, 0x3F7A7302, 0x3F7AC516,
   0x3F7B14BE, 0x3F7B61FC, 0x3F7BACCD, 0x3F7BF531, 0x3F7C3B28, 0x3F7C7EB0, 0x3F7CBFC9, 0x3F7CFE73,
   0x3F7D3AAC, 0x3F7D7474, 0x3F7DABCC, 0x3F7DE0B1, 0x3F7E1324, 0x3F7E4323, 0x3F7E70B0, 0x3F7E9BC9,
   0x3F7EC46D, 0x3F7EEA9D, 0x3F7F0E58, 0x3F7F2F9D, 0x3F7F4E6D, 0x3F7F6AC7, 0x3F7F84AB, 0x3F7F9C18,
   0x3F7FB10F, 0x3F7FC38F, 0x3F7FD397, 0x3F7FE129, 0x3F7FEC43, 0x3F7FF4E6, 0x3F7FFB11, 0x3F7FFEC4]

/-- The sine table's quadrant T[0..256] as R386 lists it. -/
def sineListing : List Word := sineListing0 ++ sineListing1 ++ sineListing2 ++ sineListing3 ++ [0x3F800000]

/-- The outputs of a convolver unit fed the finite samples of a list, one CVPROC each (R415). -/
def CvUnit.outputs (p : Limits) : CvUnit → List Word → List Word
  | _, [] => []
  | c, x :: xs => c.outb.read c.n :: CvUnit.outputs p (c.push p x).1 xs

/-- Two stores differ at most in the word at one address. -/
def SameWordsExcept (a : Nat) (m m' : Mem) : Prop := ∀ b, b ≠ a → m'.read b = m.read b

/-- Two stores differ at most on the n words from b on, which read +0.0 in the second (R294, R299). -/
def ZeroedOn (b n : Nat) (m m' : Mem) : Prop :=
  ∀ a, m'.read a = if b ≤ a ∧ a < b + n then 0 else m.read a

end Sys2Proof.Machine
end

