-- ==== Sys2Proof/Certificates/Slice0/Obligations.lean ====
section
/-! DEFINITION. The statements for the provers. Each docstring names the rule of spec/ it formalises. The named
predicates are those of Safety.lean. -/

open Sys2Proof Sys2Proof.Machine

/-! ## Numeric primitives -/

/-- R10, addition and subtraction: the binary32 nearest to the exact sum, an infinity past the overflow threshold, and
an exact zero is +0.0 except for (-0) + (-0). -/
def Obligations.SumsAreCorrectlyRounded : Prop :=
  ∀ a b : Word, isFinite a = true → isFinite b = true →
    (|value a + value b| < overflowBound → IsNearestEven (value a + value b) (fadd a b)) ∧
    (overflowBound ≤ |value a + value b| →
      isInf (fadd a b) = true ∧ (fadd a b).sign = decide (value a + value b < 0)) ∧
    (value a + value b = 0 → fadd a b = if a.sign && b.sign then 0x80000000 else 0x00000000) ∧
    (|value a - value b| < overflowBound → IsNearestEven (value a - value b) (fsub a b)) ∧
    (overflowBound ≤ |value a - value b| →
      isInf (fsub a b) = true ∧ (fsub a b).sign = decide (value a - value b < 0)) ∧
    (value a - value b = 0 → fsub a b = if a.sign && !b.sign then 0x80000000 else 0x00000000)

/-- R10, multiplication: the binary32 nearest to the exact product (subnormals kept), an infinity past the threshold,
and the sign is the XOR of the signs (R207), also of a zero. -/
def Obligations.ProductsAreCorrectlyRounded : Prop :=
  ∀ a b : Word, isFinite a = true → isFinite b = true →
    (|value a * value b| < overflowBound → IsNearestEven (value a * value b) (fmul a b)) ∧
    (overflowBound ≤ |value a * value b| → isInf (fmul a b) = true) ∧
    (fmul a b).sign = (a.sign != b.sign)

/-- R10, division: the binary32 nearest to the exact quotient, an infinity past the threshold or for a zero divisor, a
NaN for 0/0, and the sign is the XOR of the signs. -/
def Obligations.QuotientsAreCorrectlyRounded : Prop :=
  ∀ a b : Word, isFinite a = true → isFinite b = true →
    (isZero b = false →
      (|value a / value b| < overflowBound → IsNearestEven (value a / value b) (fdiv a b)) ∧
      (overflowBound ≤ |value a / value b| → isInf (fdiv a b) = true) ∧
      (fdiv a b).sign = (a.sign != b.sign)) ∧
    (isZero b = true →
      (isZero a = false → isInf (fdiv a b) = true ∧ (fdiv a b).sign = (a.sign != b.sign)) ∧
      (isZero a = true → isNaN (fdiv a b) = true))

/-- R10, sqrt32: of a positive finite word the nearest root, told by the squares of the half-way points; the zeros and
+Inf are their own roots; the root of a negative word is a NaN. -/
def Obligations.SquareRootsAreCorrectlyRounded : Prop :=
  ∀ a : Word,
    (isFinite a = true → isZero a = false → a.sign = false →
      isFinite (fsqrt a) = true ∧ (fsqrt a).sign = false ∧
      ∀ v : Word, isFinite v = true → v.sign = false →
        (value (fsqrt a) < value v → value a ≤ ((value (fsqrt a) + value v) / 2) ^ 2) ∧
        (value v < value (fsqrt a) → ((value (fsqrt a) + value v) / 2) ^ 2 ≤ value a)) ∧
    (isZero a = true → fsqrt a = a) ∧
    (a = 0x7F800000 → fsqrt a = a) ∧
    (isNaN a = false → isZero a = false → a.sign = true → isNaN (fsqrt a) = true)

/-- R11: rte rounds a quotient of naturals to the nearest integer, ties to even; RN32 of n/2^j is the nearest binary32;
toF32 is exact up to 2^24. -/
def Obligations.ConversionsRoundToNearestEven : Prop :=
  (∀ n d : Nat, 0 < d →
    2 * ((n : Int) - rte n d * d).natAbs ≤ d ∧ (2 * ((n : Int) - rte n d * d).natAbs = d → rte n d % 2 = 0)) ∧
  (∀ n j : Nat, j ≤ 149 → (n : ℚ) / 2 ^ j < overflowBound → IsNearestEven ((n : ℚ) / 2 ^ j) (rn32 n j)) ∧
  (∀ (z : Int) (j : Nat), j ≤ 149 → |(z : ℚ) / 2 ^ j| < overflowBound →
    IsNearestEven ((z : ℚ) / 2 ^ j) (rn32Int z j)) ∧
  (∀ n : Nat, n ≤ 2 ^ 24 → isFinite (toF32 n) = true ∧ value (toF32 n) = n)

/-- R13: the table's rows at a prepared rate, and clampP by any of them. -/
def Obligations.ParameterClampFollowsItsRow : Prop :=
  ∀ sr : Word,
    (value rowFS.lo = 8000 ∧ value rowFS.hi = 384000 ∧ value rowFS.nan = 48000) ∧
    (value (rowFREQ sr).lo = 1 ∧ (rowFREQ sr).hi = fmul 0x3EFAE148 sr ∧
      (isFinite (rowFREQ sr).hi = true → value (rowFREQ sr).hi < 1000 → (rowFREQ sr).nan = (rowFREQ sr).hi) ∧
      (isFinite (rowFREQ sr).hi = true → 1000 ≤ value (rowFREQ sr).hi → value (rowFREQ sr).nan = 1000)) ∧
    (IsNearestEven (5 / 100) rowQ.lo ∧ value rowQ.hi = 50 ∧ rowQ.nan = 0x3F3504F3) ∧
    (value rowGAIN.lo = -60 ∧ value rowGAIN.hi = 60 ∧ rowGAIN.nan = 0x00000000) ∧
    (IsNearestEven (1 / 100) rowTAU.lo ∧ value rowTAU.hi = 10000 ∧ value rowTAU.nan = 10) ∧
    (IsNearestEven (1 / 10) rowWIN.lo ∧ value rowWIN.hi = 1000 ∧ value rowWIN.nan = 50) ∧
    (value (rowLFOF sr).lo = 0 ∧ (rowLFOF sr).hi = fmul 0x3F000000 sr ∧ (rowLFOF sr).nan = 0x00000000) ∧
    (fLe rowFS.lo sr = true → fLe sr rowFS.hi = true →
      ∀ p ∈ [rowFS, rowFREQ sr, rowQ, rowGAIN, rowTAU, rowWIN, rowLFOF sr],
      isFinite p.hi = true ∧ value p.lo ≤ value p.hi ∧
      ∀ v : Word,
        (isNaN v = true → (clampP v p).1 = p.nan) ∧
        (v = 0x7F800000 → (clampP v p).1 = p.hi) ∧
        (v = 0xFF800000 → (clampP v p).1 = p.lo) ∧
        (isFinite v = true →
          (value v < value p.lo → (clampP v p).1 = p.lo) ∧
          (value p.hi < value v → (clampP v p).1 = p.hi) ∧
          (value p.lo ≤ value v → value v ≤ value p.hi → (clampP v p).1 = v)) ∧
        (clampP v p).2 = if (clampP v p).1 = v then 0 else flagCLAMP)

/-- R15: nearestPow2(n, 32, 4096) is a power of two of the range, nearest to n, of two equally near the larger; and
xorshift32 as shifts and XORs on 32-bit naturals, which takes no nonzero word to 0 (R375) and no two words to one. -/
def Obligations.IntegerPrimitivesFollowTheirRule : Prop :=
  (∀ n : Nat, nearestBlock n ∈ [32, 64, 128, 256, 512, 1024, 2048, 4096] ∧
    ∀ p ∈ [32, 64, 128, 256, 512, 1024, 2048, 4096],
      ((nearestBlock n : Int) - n).natAbs ≤ ((p : Int) - n).natAbs ∧
      (((nearestBlock n : Int) - n).natAbs = ((p : Int) - n).natAbs → p ≤ nearestBlock n)) ∧
  (∀ s : Word,
    let s1 := s.toNat ^^^ (s.toNat * 2 ^ 13 % 2 ^ 32)
    let s2 := s1 ^^^ (s1 / 2 ^ 17)
    (xorshift32 s).toNat = s2 ^^^ (s2 * 2 ^ 5 % 2 ^ 32)) ∧
  (∀ s : Word, s ≠ 0 → xorshift32 s ≠ 0) ∧ (∀ s t : Word, xorshift32 s = xorshift32 t → s = t)

/-! ## Encoding -/

/-- R161, R164, R165: on a core with any parameters, a word decodes to a command exactly when it is the encoding of that
legal command. So decoding reads back every operand of every legal command at every value, and every word is one legal
command or illegal. -/
def Obligations.DecodeInvertsEncode : Prop :=
  ∀ (p : Params) (w : Word) (i : Instr), decode p w = .ok i ↔ i.wf p = true ∧ encode i = w

/-- R165: a word is the command of a row iff its masked bits equal the row's match and the FN, U and CH ranges hold;
and every legal word is some row's. -/
def Obligations.DecodingFollowsTheOpcodeMap : Prop :=
  ∀ (p : Params) (w : Word),
    (∀ r ∈ opTable p, ((∃ i, decode p w = .ok i ∧ i.mnemonic = r.mnemonic) ↔ r.Accepts w)) ∧
    (∀ i, decode p w = .ok i → ∃ r ∈ opTable p, i.mnemonic = r.mnemonic)

/-- Words written out from the field layout of R161, the rows of R165 and the FN numbers of R171 decode to their
commands: examples of the command rules, and every legal FN of BQDES, BQRDC, LFOWAV and ENVCFG. Words R164 calls illegal
do not; that unit 16 and channel 2 are illegal rests on the default parameters (log 1). -/
def Obligations.SpecWordsDecodeToTheirCommands : Prop :=
  let decoded := decode Params.default
  decoded 0x00000000 = .ok .nop ∧
  decoded 0x04020000 = .ok (.prepare 0 1) ∧
  decoded 0x0D020000 = .ok (.fadd 2 0 1) ∧
  decoded 0x19828000 = .ok (.fmac 3 0 1 2) ∧
  decoded 0x24801003 = .ok (.bqproc 1 0 1 3) ∧
  decoded 0x40020001 = .ok (.dlcfg 0 1 1) ∧
  decoded 0x4D100005 = .ok (.dlrdc 2 1 5) ∧
  decoded 0xA9000000 = .ok (.cvload 2 0) ∧
  decoded 0xC4800005 = .ok (.pgchk 1 5) ∧
  decoded 0x22028000 = .ok (.bqdes 4 0 1 2 .lowpass 0) ∧
  decoded 0x22028100 = .ok (.bqdes 4 0 1 2 .highpass 0) ∧
  decoded 0x22028200 = .ok (.bqdes 4 0 1 2 .bandpass 0) ∧
  decoded 0x22028300 = .ok (.bqdes 4 0 1 2 .notch 0) ∧
  decoded 0x22028400 = .ok (.bqdes 4 0 1 2 .peak 0) ∧
  decoded 0x22028500 = .ok (.bqdes 4 0 1 2 .lowShelf 0) ∧
  decoded 0x22028600 = .ok (.bqdes 4 0 1 2 .highShelf 0) ∧
  decoded 0x22028700 = .ok (.bqdes 4 0 1 2 .allPass 0) ∧
  decoded 0x2C000000 = .ok (.bqrdc 0 .b0 0) ∧
  decoded 0x2C000100 = .ok (.bqrdc 0 .b1 0) ∧
  decoded 0x2C000200 = .ok (.bqrdc 0 .b2 0) ∧
  decoded 0x2C000300 = .ok (.bqrdc 0 .a1 0) ∧
  decoded 0x2C000400 = .ok (.bqrdc 0 .a2 0) ∧
  decoded 0x84000000 = .ok (.lfowav .sine 0) ∧
  decoded 0x84000100 = .ok (.lfowav .triangle 0) ∧
  decoded 0x84000200 = .ok (.lfowav .square 0) ∧
  decoded 0x84000300 = .ok (.lfowav .sawtooth 0) ∧
  decoded 0x84000400 = .ok (.lfowav .random 0) ∧
  decoded 0x60000001 = .ok (.envcfg .instantAttack .peak 1) ∧
  decoded 0x60000101 = .ok (.envcfg .smoothedAttack .peak 1) ∧
  decoded 0x60000201 = .ok (.envcfg .instantAttack .rms 1) ∧
  decoded 0x60000301 = .ok (.envcfg .smoothedAttack .rms 1) ∧
  decoded 0x30000000 = .error .opcode ∧
  decoded 0x00000001 = .error .unusedField ∧
  decoded 0x60000400 = .error .unusedField ∧
  decoded 0x22028800 = .error .selector ∧
  decoded 0x2C000500 = .error .selector ∧
  decoded 0x84000500 = .error .selector ∧
  decoded 0x28000010 = .error .unitRange ∧
  decoded 0x24002000 = .error .channelRange

/-! ## Steps, bus and refusals -/

/-- R59, R52: a CMD write runs the command its word decodes to, completely, and the command index advances by one; a
CMD read returns 0 and has no side effect; with no access pending nothing changes (R495). -/
def Obligations.CmdWriteRunsTheDecodedCommand : Prop :=
  (∀ (s : State) (w : Word) (rest : List BusAccess) (i : Instr),
    s.pending = .write .word 0x30 w :: rest → decode s.params w = .ok i →
    step s = match exec i { s with pending := rest } with
      | .next t => .next { t with ci := t.ci + 1, seen := ⟨none, t.irq⟩ :: t.seen }
      | .fault r => .fault r
      | .refused r => .refused r) ∧
  (∀ (s : State) (rest : List BusAccess), s.pending = .read .word 0x30 :: rest →
    step s = .next { s with pending := rest, seen := ⟨some 0, s.irq⟩ :: s.seen }) ∧
  (∀ s : State, s.pending = [] → step s = .next s)

/-- R482: a CMD write of an illegal word, or of a legal word other than NOP, PREPARE or RESET on a core that is not
prepared, only sets its STATUS bit and ERRCMD; the command index still advances. The host observes the write with the
IRQ level after it. -/
def Obligations.RefusedWordOnlyMarks : Prop :=
  ∀ (s : State) (w : Word) (rest : List BusAccess), s.pending = .write .word 0x30 w :: rest →
    (∀ e, decode s.params w = .error e →
      step s = .next { s with
        pending := rest, status := s.status ||| 0x01, errcmd := w, ci := s.ci + 1
        seen := ⟨none, (s.status ||| 0x01) &&& s.irqen != 0⟩ :: s.seen }) ∧
    (∀ i, decode s.params w = .ok i → s.prepared = false → i ≠ .nop → i ≠ .reset → (∀ ra rb, i ≠ .prepare ra rb) →
      step s = .next { s with
        pending := rest, status := s.status ||| 0x02, errcmd := w, ci := s.ci + 1
        seen := ⟨none, (s.status ||| 0x02) &&& s.irqen != 0⟩ :: s.seen })

/-- R122: an access that is not a whole aligned word changes nothing but STATUS.BUS, and a read of it returns 0. -/
def Obligations.PartialAccessOnlySetsBus : Prop :=
  ∀ (s : State) (width : AccessWidth) (offset : Fin 256) (rest : List BusAccess),
    width ≠ .word ∨ offset.val % 4 ≠ 0 →
    (s.pending = .read width offset :: rest →
      step s = .next { s with
        pending := rest, status := s.status ||| 0x40,
        seen := ⟨some 0, (s.status ||| 0x40) &&& s.irqen != 0⟩ :: s.seen }) ∧
    (∀ v, s.pending = .write width offset v :: rest →
      step s = .next { s with
        pending := rest, status := s.status ||| 0x40,
        seen := ⟨none, (s.status ||| 0x40) &&& s.irqen != 0⟩ :: s.seen })

/-- R51, R54, R55, R57, R63, R121: an aligned word read returns the register's value and changes nothing; an aligned
word write elsewhere than CMD has the register map's effect. STATUS is write-1-to-clear, bit by bit (R56). -/
def Obligations.WordAccessFollowsTheRegisterMap : Prop :=
  ∀ (s : State) (offset : Fin 256) (rest : List BusAccess), offset.val % 4 = 0 →
    (s.pending = .read .word offset :: rest →
      step s = .next { s with pending := rest, seen := ⟨some (windowValue s offset.val), s.irq⟩ :: s.seen }) ∧
    (∀ v, offset.val ≠ 0x30 → s.pending = .write .word offset v :: rest →
      step s = .next ((windowWrite { s with pending := rest } offset.val v).observe none)) ∧
    (∀ (v : Word) (b : Nat), b < 7 →
      (windowWrite s 0x24 v).status.getLsbD b = (s.status.getLsbD b && !v.getLsbD b))

/-- R521: the reset value of every element of a core with any parameters, and the constants the identity and capability
registers read (DMEM, H and STG have no reset value). State.reset has the default parameters (log 1). -/
def Obligations.HardwareResetLeavesTheResetValues : Prop :=
  State.reset = State.resetOf Params.default ∧ ∀ p : Params,
  let s := State.resetOf p
  (s.params = p ∧ s.readReg (windowReg 0x00) = 0x4A465832 ∧ s.readReg (windowReg 0x04) = 0x00010000 ∧
    (∀ offset : Fin 256, 0x08 ≤ offset.val → offset.val < 0x1C → offset.val % 4 = 0 →
      s.readReg (windowReg offset) = windowValue s offset.val)) ∧
  s.status = 0 ∧ s.irqen = 0 ∧ s.errcmd = 0 ∧ s.sr = 0x473B8000 ∧ s.maxblk = 0 ∧ s.prepared = false ∧ s.irq = false ∧
  (∀ r, s.reg r = 0) ∧
  (∀ u : UnitIx, u.val < p.nbq →
    let b := s.bqAt u
    b.type = .lowpass ∧ b.rf = 0x447A0000 ∧ b.rq = 0x3F3504F3 ∧ b.rg = 0 ∧ b.designed = false ∧ b.cfs = 0 ∧
    b.b0 = 0x3F800000 ∧ b.b1 = 0 ∧ b.b2 = 0 ∧ b.a1 = 0 ∧ b.a2 = 0 ∧ (∀ z ∈ b.z1, z = 0) ∧ (∀ z ∈ b.z2, z = 0)) ∧
  (∀ u : UnitIx, u.val < p.ndl →
    let d := s.dlAt u
    d.base = u.val * (p.dmemWords / p.ndl) ∧ d.cap = p.dmemWords / p.ndl ∧ d.wi = 0) ∧
  (∀ u : UnitIx, u.val < p.nenv →
    let e := s.envAt u
    e.pol = .smoothedAttack ∧ e.det = .peak ∧ e.rta = 0x41200000 ∧ e.rtr = 0x42C80000 ∧ e.rwin = 0x42480000 ∧
    e.cfsa = 0 ∧ e.cfsr = 0 ∧ e.ac = 0 ∧ e.ag = 0 ∧ e.rc = 0 ∧ e.rg = 0 ∧ e.w = 1 ∧ e.ridx = 0 ∧ e.level = 0 ∧
    e.sum = 0 ∧ (∀ k, e.ring.read k = 0)) ∧
  (∀ u : UnitIx, u.val < p.nlfo →
    let l := s.lfoAt u
    l.rfreq = 0x3F800000 ∧ l.inc = 0 ∧ l.wave = .sine ∧ l.ofs = 0 ∧ l.seed = 1 ∧ l.phase = 0 ∧ l.rng = 1 ∧
    l.held = 0) ∧
  (∀ u : UnitIx, u.val < p.ncv →
    let c := s.cvAt u
    c.blk = 256 ∧ c.loaded = false ∧ c.ir.length = 0 ∧ c.stg.length = 0 ∧ c.n = 0 ∧ (∀ i, c.inb.read i = 0) ∧
    (∀ i, c.outb.read i = 0) ∧ c.hist = []) ∧
  (∀ u : UnitIx, u.val < p.npg →
    let g := s.pgAt u
    g.pval = 0 ∧ g.last = 0 ∧ g.valid = false)

/-- R486: IRQ is the OR over b in 0..6 of STATUS[b] AND IRQEN[b], and it is evaluated after every access: the level
observed with an access is that of the state it leaves. -/
def Obligations.InterruptLineFollowsStatusAndEnables : Prop :=
  (∀ s : State, s.irq = true ↔ ∃ b, b < 7 ∧ s.status.getLsbD b = true ∧ s.irqen.getLsbD b = true) ∧
  (∀ s t : State, s.pending ≠ [] → step s = .next t → ∃ d, t.seen = ⟨d, t.irq⟩ :: s.seen) ∧
  State.reset.irq = false

/-- R56: in any step, a STATUS bit is cleared only by a host write of 1 to it or by a hardware reset (a CTRL write with
bit 0 set). -/
def Obligations.StatusBitsAreClearedOnlyByTheHost : Prop :=
  ∀ (s t : State) (b : Nat), b < 7 → step s = .next t → s.status.getLsbD b = true → t.status.getLsbD b = false →
    ∃ v rest, (s.pending = .write .word 0x24 v :: rest ∧ v.getLsbD b = true) ∨
      (s.pending = .write .word 0x20 v :: rest ∧ v.getLsbD 0 = true)

/-- R480, R483, R58: an executed command sets no flag but those its rule lists, so never ILL, SEQ or BUS (R485), and
ERRCMD takes its word exactly when it flags. -/
def Obligations.CommandsSetOnlyTheirOwnFlags : Prop :=
  ∀ (i : Instr) (s t : State), i.wf s.params = true → (i.always = true ∨ s.prepared = true) → exec i s = .next t →
    (∃ f : FlagSet, f &&& ~~~i.mayFlag = 0 ∧ Flagged (encode i) f s t) ∧
    (s.NoError → t.NoError)

/-- R53, R54, R57, R60, R61, R62, R126, R127: what no command changes. The parameters, IRQEN and the host's side never
change; SR, MAXBLK and PREPARED only by PREPARE; no data register but the one R166 names as RD; no bank outside the
command's own; and in its own banks no unit but the one U names, unless the command is PREPARE or RESET. -/
def Obligations.CommandsWriteOnlyWhatTheyOwn : Prop :=
  ∀ (i : Instr) (s t : State), exec i s = .next t →
    (t.params = s.params ∧ t.irqen = s.irqen ∧ t.pending = s.pending ∧ t.ci = s.ci ∧ t.seen = s.seen) ∧
    ((∀ ra rb, i ≠ .prepare ra rb) → t.sr = s.sr ∧ t.maxblk = s.maxblk ∧ t.prepared = s.prepared) ∧
    (∀ r, i.dest ≠ some r → t.reg r = s.reg r) ∧
    (∀ k, k ∉ i.banks → k.Same s t) ∧
    (∀ u n, i.unit s.params = some (u, n) →
      OnlyBq u s t ∧ OnlyDl u s t ∧ OnlyEnv u s t ∧ OnlyLfo u s t ∧ OnlyCv u s t ∧ OnlyPg u s t)

/-! ## Invariants -/

/-- R72, R6: with any legal parameters the state after hardware reset meets the invariants; the default parameters,
which State.reset has, are legal. -/
def Obligations.ResetStateMeetsTheInvariants : Prop :=
  (∀ p : Params, p.Legal → (State.resetOf p).Inv ∧ (State.resetOf p).AtRate ∧ (State.resetOf p).NoError) ∧
  Params.default.Legal ∧ State.reset = State.resetOf Params.default

/-- R72: every step from a state that meets the invariants leaves one that meets them; every step keeps the coefficients
in force at the prepared rate (R202, R252, R338, R339), and no step changes the parameters (R54). -/
def Obligations.StepsKeepTheInvariants : Prop :=
  ∀ s t : State, step s = .next t → (s.Inv → t.Inv) ∧ (s.AtRate → t.AtRate) ∧ t.params = s.params

/-- R496: no step is ever stuck: from every state that meets the invariants of R72, every bus access and every command
word has a next state. -/
def Obligations.NoStepIsEverStuck : Prop := ∀ s : State, s.Inv → ∃ t, step s = .next t

/-! ## Control and glue commands -/

/-- R200, R203, R204: NOP changes nothing; RESET clears the dynamic state and nothing else, twice as once; both run
whether or not the core is prepared. -/
def Obligations.NopAndResetComplete : Prop :=
  ∀ s : State,
    encode .nop = 0x00000000 ∧ exec .nop s = .next s ∧
    encode .reset = 0x08000000 ∧
    ∃ t, exec .reset s = .next t ∧ DynamicCleared s t ∧ SameRegs s t ∧ SameGlobal s t ∧
      t.status = s.status ∧ t.errcmd = s.errcmd ∧ exec .reset t = .next t

/-- R201, R202, R204: PREPARE writes SR, MAXBLK and PREPARED, recomputes every rate-dependent quantity at the new rate,
clears the dynamic state, keeps everything else, and flags what its clamps and the recomputation of any unit flag. It
completes in every state, prepared or not (R172). -/
def Obligations.PrepareRecomputesAndClears : Prop :=
  ∀ (ra rb : Reg) (s : State),
    let fs := clampP (s.reg ra) rowFS
    let mb := min (max (s.reg rb).toNat 1) 65536
    Fields.ofWord (encode (.prepare ra rb)) = ⟨0x01, 0, ra, rb, 0, 0, 0, 0⟩ ∧
    ∃ t, exec (.prepare ra rb) s = .next t ∧
      t.sr = fs.1 ∧ t.maxblk.toNat = mb ∧ t.prepared = true ∧
      SameRegs s t ∧ t.params = s.params ∧ t.irqen = s.irqen ∧ t.pending = s.pending ∧ t.ci = s.ci ∧ t.seen = s.seen ∧
      (∀ u : UnitIx, u.val < s.bq.length → t.bqAt u =
        { (if (s.bqAt u).designed then (design fs.1 (s.bqAt u)).1 else s.bqAt u) with
          z1 := Vector.replicate 4 0, z2 := Vector.replicate 4 0 }) ∧
      (∀ u : UnitIx, u.val < s.dl.length → t.dlAt u = { s.dlAt u with wi := 0 }) ∧ (∀ a, t.dmem.read a = 0) ∧
      (∀ u : UnitIx, u.val < s.env.length → t.envAt u =
        { s.envAt u with
          ac := (envCoef fs.1 (s.envAt u).rta).1.1, ag := (envCoef fs.1 (s.envAt u).rta).1.2, cfsa := fs.1
          rc := (envCoef fs.1 (s.envAt u).rtr).1.1, rg := (envCoef fs.1 (s.envAt u).rtr).1.2, cfsr := fs.1
          w := (winSamples s.limits.rmsWinMax fs.1 (s.envAt u).rwin).1, level := 0, ridx := 0, sum := 0, ring := [] }) ∧
      (∀ u : UnitIx, u.val < s.lfo.length → t.lfoAt u =
        { s.lfoAt u with
          inc := (lfoInc fs.1 (s.lfoAt u).rfreq).1, phase := 0, rng := (s.lfoAt u).seed, held := 0 }) ∧
      (∀ u : UnitIx, u.val < s.cv.length →
        t.cvAt u = { s.cvAt u with n := 0, inb := [], outb := [], hist := [] }) ∧
      (∀ u : UnitIx, u.val < s.pg.length → t.pgAt u = { s.pgAt u with valid := false }) ∧
      ∃ f : FlagSet, Flagged (encode (.prepare ra rb)) f s t ∧
        ∀ k, f.getLsbD k = true ↔
          (fs.2.getLsbD k = true ∨ (mb ≠ (s.reg rb).toNat ∧ flagCLAMP.getLsbD k = true) ∨
          (∃ b ∈ s.bq, b.designed = true ∧ (design fs.1 b).2.getLsbD k = true) ∨
          (∃ e ∈ s.env,
            ((envCoef fs.1 e.rta).2 ||| (envCoef fs.1 e.rtr).2 |||
              (winSamples s.limits.rmsWinMax fs.1 e.rwin).2).getLsbD k = true) ∨
          (∃ l ∈ s.lfo, (lfoInc fs.1 l.rfreq).2.getLsbD k = true))

/-- R205 to R208: FADD, FSUB, FMUL and FMAC sanitize their operands, compute with one rounding an operator, write the
sanitized result to rd and flag NUM where anything was replaced. -/
def Obligations.GlueArithmeticCompletes : Prop :=
  ∀ (rd ra rb rc : Reg) (s : State),
    let a := sanitize (s.reg ra)
    let b := sanitize (s.reg rb)
    let c := sanitize (s.reg rc)
    let sum := sanitize (fadd a.1 b.1)
    let difference := sanitize (fsub a.1 b.1)
    let product := sanitize (fmul a.1 b.1)
    let mac := sanitize (fadd a.1 (fmul b.1 c.1))
    ObeysFrame (.fadd rd ra rb) ⟨0x03, rd, ra, rb, 0, 0, 0, 0⟩ s ∧
    ObeysFrame (.fsub rd ra rb) ⟨0x04, rd, ra, rb, 0, 0, 0, 0⟩ s ∧
    ObeysFrame (.fmul rd ra rb) ⟨0x05, rd, ra, rb, 0, 0, 0, 0⟩ s ∧
    ObeysFrame (.fmac rd ra rb rc) ⟨0x06, rd, ra, rb, rc, 0, 0, 0⟩ s ∧
    (s.prepared = true →
      Completes (.fadd rd ra rb) s (a.2 ||| b.2 ||| sum.2) [] (Writes rd sum.1 s) ∧
      Completes (.fsub rd ra rb) s (a.2 ||| b.2 ||| difference.2) [] (Writes rd difference.1 s) ∧
      Completes (.fmul rd ra rb) s (a.2 ||| b.2 ||| product.2) [] (Writes rd product.1 s) ∧
      Completes (.fmac rd ra rb rc) s (a.2 ||| b.2 ||| c.2 ||| mac.2) [] (Writes rd mac.1 s))

/-- R209: SCLIP writes TANH32 of the sanitized operand, a finite value of magnitude at most min(|a|, 1), flags NUM only
for a non-finite operand, and gives +0 for it. -/
def Obligations.SoftClipIsBoundedAndContracts : Prop :=
  ∀ (rd ra : Reg) (s : State),
    let a := sanitize (s.reg ra)
    ObeysFrame (.sclip rd ra) ⟨0x07, rd, ra, 0, 0, 0, 0, 0⟩ s ∧
    (s.prepared = true →
      Completes (.sclip rd ra) s (if isFinite (s.reg ra) then 0 else flagNUM) [] fun t =>
        Writes rd (tanh32 a.1) s t ∧ isFinite (t.reg rd) = true ∧
        |value (t.reg rd)| ≤ |value a.1| ∧ |value (t.reg rd)| ≤ 1 ∧
        (isFinite (s.reg ra) = false → t.reg rd = 0))

/-- R210, in two parts. PREPARE leaves the dynamic state as ResetDynamic does. And a run of processing commands and
register loads from such a state, followed by a clear, can be repeated: every prefix of the second run leaves the data
registers the first left. The two runs start with the same data registers (R210 supposes the same register writes). -/
def Obligations.ProcessingRepeatsAfterReset : Prop :=
  (∀ (ra rb : Reg) (s t : State), exec (.prepare ra rb) s = .next t → t.resetDynamic = t) ∧
  ∀ (ops pre : List HostOp) (s t tp : State), s.resetDynamic = s →
    (∀ op ∈ ops, ∀ i, op = .command i → i.configures = false) → pre <+: ops →
    runOps ops s = .next t → runOps pre s = .next tp →
    ∃ t', runOps pre { t.resetDynamic with regs := s.regs } = .next t' ∧ t'.regs = tp.regs

/-! ## Biquad -/

/-- R252: BQDES keeps a unit whose design words and rate are unchanged and writes 0; otherwise it stores the words,
designs, and writes 1, keeping Z1 and Z2. -/
def Obligations.BiquadDesignRunsOnlyOnChange : Prop :=
  ∀ (rd ra rb rc : Reg) (ty : FilterType) (u : UnitIx) (s : State),
    let i : Instr := .bqdes rd ra rb rc ty u
    let b := s.bqAt u
    let stored := { b with type := ty, rf := s.reg ra, rq := s.reg rb, rg := s.reg rc, designed := true }
    ObeysFrame i ⟨0x08, rd, ra, rb, rc, 0, ty.toFn, u⟩ s ∧
    (u.val < s.bq.length → s.prepared = true →
      (b.designed = true ∧ b.type = ty ∧ b.rf = s.reg ra ∧ b.rq = s.reg rb ∧ b.rg = s.reg rc ∧ b.cfs = s.sr →
        Completes i s 0 [] (Writes rd 0 s)) ∧
      (¬(b.designed = true ∧ b.type = ty ∧ b.rf = s.reg ra ∧ b.rq = s.reg rb ∧ b.rg = s.reg rc ∧ b.cfs = s.sr) →
        Completes i s (design s.sr stored).2 [.bq] fun t =>
          Writes rd 1 s t ∧ t.bqAt u = (design s.sr stored).1 ∧ OnlyBq u s t ∧
          (t.bqAt u).z1 = b.z1 ∧ (t.bqAt u).z2 = b.z2 ∧ (t.bqAt u).cfs = s.sr))

/-- R242 to R247, R249, R250: a design writes only the five coefficients and CFS; the coefficients are finite and never
-0.0; they are the quotients by a0 of the type's row of R246, over w0, α and A (R242, R243) and the sub-expressions of
R244 and R245, each operator rounded once; or, if one of those quotients is non-finite or a0 is zero, the passthrough
set with NUM. The flags are those of the three clamps and NUM. -/
def Obligations.DesignedCoefficientsAreFinite : Prop :=
  ∀ (sr : Word) (b : BqUnit),
    let d := (design sr b).1
    let f := clampP b.rf (rowFREQ sr)
    let q := clampP b.rq rowQ
    let g := clampP b.rg rowGAIN
    let w0 := fdiv (fmul 0x40C90FDB f.1) sr
    let sn := sin32 w0
    let cs := cos32 w0
    let alpha := fdiv sn (fmul 0x40000000 q.1)
    let A := pow10_32 (fdiv g.1 0x42200000)
    let m := fsub 0x3F800000 cs
    let p := fadd 0x3F800000 cs
    let a1c := fmul 0xC0000000 cs
    let ap := fadd 0x3F800000 alpha
    let am := fsub 0x3F800000 alpha
    let aA := fmul alpha A
    let adA := fdiv alpha A
    let tsa := fmul (fmul 0x40000000 (fsqrt A)) alpha
    let Ap1 := fadd A 0x3F800000
    let Am1 := fsub A 0x3F800000
    let uu := fmul Am1 cs
    let vv := fmul Ap1 cs
    let raw : RawCoefs := match b.type with
      | .lowpass => ⟨fmul 0x3F000000 m, m, fmul 0x3F000000 m, ap, a1c, am⟩
      | .highpass => ⟨fmul 0x3F000000 p, fneg p, fmul 0x3F000000 p, ap, a1c, am⟩
      | .bandpass => ⟨alpha, 0x00000000, fneg alpha, ap, a1c, am⟩
      | .notch => ⟨0x3F800000, a1c, 0x3F800000, ap, a1c, am⟩
      | .peak => ⟨fadd 0x3F800000 aA, a1c, fsub 0x3F800000 aA, fadd 0x3F800000 adA, a1c, fsub 0x3F800000 adA⟩
      | .lowShelf =>
        ⟨fmul A (fadd (fsub Ap1 uu) tsa), fmul (fmul 0x40000000 A) (fsub Am1 vv), fmul A (fsub (fsub Ap1 uu) tsa),
          fadd (fadd Ap1 uu) tsa, fmul 0xC0000000 (fadd Am1 vv), fsub (fadd Ap1 uu) tsa⟩
      | .highShelf =>
        ⟨fmul A (fadd (fadd Ap1 uu) tsa), fmul (fmul 0xC0000000 A) (fadd Am1 vv), fmul A (fsub (fadd Ap1 uu) tsa),
          fadd (fsub Ap1 uu) tsa, fmul 0x40000000 (fsub Am1 vv), fsub (fsub Ap1 uu) tsa⟩
      | .allPass => ⟨am, a1c, ap, ap, a1c, am⟩
    let quotient : Word → Word := fun x => if fdiv x raw.a0 = 0x80000000 then 0 else fdiv x raw.a0
    let bad := isZero raw.a0 || !(isFinite (fdiv raw.b0 raw.a0) && isFinite (fdiv raw.b1 raw.a0) &&
      isFinite (fdiv raw.b2 raw.a0) && isFinite (fdiv raw.a1 raw.a0) && isFinite (fdiv raw.a2 raw.a0))
    d = { b with b0 := d.b0, b1 := d.b1, b2 := d.b2, a1 := d.a1, a2 := d.a2, cfs := sr } ∧
    (∀ k, isFinite (d.coef k) = true ∧ d.coef k ≠ 0x80000000) ∧
    d.b0 = (if bad then 0x3F800000 else quotient raw.b0) ∧ d.b1 = (if bad then 0 else quotient raw.b1) ∧
    d.b2 = (if bad then 0 else quotient raw.b2) ∧ d.a1 = (if bad then 0 else quotient raw.a1) ∧
    d.a2 = (if bad then 0 else quotient raw.a2) ∧
    (design sr b).2 = f.2 ||| q.2 ||| g.2 ||| (if bad then flagNUM else 0)

/-- R256, the coefficients: a peak or shelf design at 0 dB stores B0 = 1.0, B1 = A1 and B2 = A2, whatever the rate, the
frequency, Q, and the configuration fields. -/
def Obligations.ZeroGainDesignIsUnity : Prop :=
  ∀ (sr : Word) (b : BqUnit), b.type = .peak ∨ b.type = .lowShelf ∨ b.type = .highShelf →
    isZero (clampP b.rg rowGAIN).1 = true →
    (design sr b).1.b0 = 0x3F800000 ∧ (design sr b).1.b1 = (design sr b).1.a1 ∧
    (design sr b).1.b2 = (design sr b).1.a2

/-- R256, the output: with such coefficients and a zero channel state, BQPROC returns its input and keeps the zero
state, as long as A1·x and A2·x are finite; for an input of -0.0 it returns +0.0. -/
def Obligations.UnityBiquadReturnsItsInput : Prop :=
  ∀ (b : BqUnit) (c : ChanIx) (x : Word),
    b.b0 = 0x3F800000 → b.b1 = b.a1 → b.b2 = b.a2 → isFinite b.a1 = true → isFinite b.a2 = true → isFinite x = true →
    b.z1.get c = 0 → b.z2.get c = 0 →
    isFinite (fmul b.a1 x) = true → isFinite (fmul b.a2 x) = true →
    (x ≠ 0x80000000 → biquadStep b c x = (x, b, 0)) ∧
    (x = 0x80000000 → (biquadStep b c x).1 = 0 ∧ (biquadStep b c x).2.2 = 0)

/-- R251, R253: BQPROC runs one transposed direct-form-II sample on channel c of unit u, with the recovery branch where
y, n1 or n2 is non-finite; its output is finite and the other channels and units keep their state. -/
def Obligations.BiquadProcessesOneSample : Prop :=
  ∀ (rd ra : Reg) (c : ChanIx) (u : UnitIx) (s : State),
    let i : Instr := .bqproc rd ra c u
    let b := s.bqAt u
    let x := sanitize (s.reg ra)
    let z1 := b.z1.get c
    let z2 := b.z2.get c
    let y := fadd (fmul b.b0 x.1) z1
    let n1 := fsub (fadd (fmul b.b1 x.1) z2) (fmul b.a1 y)
    let n2 := fsub (fmul b.b2 x.1) (fmul b.a2 y)
    let good := isFinite y = true ∧ isFinite n1 = true ∧ isFinite n2 = true
    let post := fun (out m1 m2 : Word) (t : State) =>
      Writes rd out s t ∧ isFinite out = true ∧ OnlyBq u s t ∧
      (t.bqAt u).z1.get c = m1 ∧ (t.bqAt u).z2.get c = m2 ∧
      (∀ k : ChanIx, k ≠ c → (t.bqAt u).z1.get k = b.z1.get k ∧ (t.bqAt u).z2.get k = b.z2.get k) ∧
      t.bqAt u = { b with z1 := (t.bqAt u).z1, z2 := (t.bqAt u).z2 }
    ObeysFrame i ⟨0x09, rd, ra, 0, 0, c, 0, u⟩ s ∧
    (u.val < s.bq.length → c.val < s.limits.nch → s.prepared = true →
      (good → Completes i s x.2 [.bq] (post y n1 n2)) ∧
      (¬good → Completes i s (x.2 ||| flagNUM) [.bq] (post 0 0 0)))

/-- R254, R255: BQCLR zeroes the channel states of its unit and nothing else; BQRDC writes the selected coefficient. -/
def Obligations.BiquadClearAndReadbackComplete : Prop :=
  ∀ (rd : Reg) (k : CoefIndex) (u : UnitIx) (s : State),
    ObeysFrame (.bqclr u) ⟨0x0A, 0, 0, 0, 0, 0, 0, u⟩ s ∧
    ObeysFrame (.bqrdc rd k u) ⟨0x0B, rd, 0, 0, 0, 0, k.toFn, u⟩ s ∧
    (u.val < s.bq.length → s.prepared = true →
      (Completes (.bqclr u) s 0 [.bq] fun t =>
        SameRegs s t ∧ OnlyBq u s t ∧
        t.bqAt u = { s.bqAt u with z1 := Vector.replicate 4 0, z2 := Vector.replicate 4 0 }) ∧
      Completes (.bqrdc rd k u) s 0 [] (Writes rd
        (match k with
          | .b0 => (s.bqAt u).b0
          | .b1 => (s.bqAt u).b1
          | .b2 => (s.bqAt u).b2
          | .a1 => (s.bqAt u).a1
          | .a2 => (s.bqAt u).a2) s))

/-- R257: only BQDES on the unit and PREPARE change anything of a biquad unit but its channel state. -/
def Obligations.CoefficientsChangeOnlyByDesign : Prop :=
  ∀ (i : Instr) (s t : State) (v : UnitIx), exec i s = .next t → (∀ ra rb, i ≠ .prepare ra rb) →
    (∀ rd ra rb rc ty, i ≠ .bqdes rd ra rb rc ty v) →
    s.bqAt v = { t.bqAt v with z1 := (s.bqAt v).z1, z2 := (s.bqAt v).z2 }

/-! ## Delay -/

/-- R291, R292: in a DMEM of any legal size, what DelayClamp returns and flags for every operand, by its value; and of
a legal delay the integer part is its floor and the fraction is exact and in [0, 1). -/
def Obligations.DelayOperandIsClampedAndSplit : Prop :=
  ∀ (v : Word) (d : DlUnit) (words : Nat), words ≤ 2 ^ 24 → d.Inv words →
    value (toF32 (d.cap - 3)) = ((d.cap - 3 : Nat) : ℚ) ∧
    (isNaN v = true → delayClamp v d = (0, flagCLAMP)) ∧
    (v = 0xFF800000 ∨ (isFinite v = true ∧ value v < 0) → delayClamp v d = (0, flagCLAMP)) ∧
    (v = 0x7F800000 ∨ (isFinite v = true ∧ ((d.cap - 3 : Nat) : ℚ) < value v) →
      delayClamp v d = (toF32 (d.cap - 3), flagRSRC)) ∧
    (isFinite v = true → 0 ≤ value v → value v ≤ ((d.cap - 3 : Nat) : ℚ) →
      delayClamp v d = (v, 0) ∧ delayInt v ≤ d.cap - 3 ∧ (delayInt v : ℚ) ≤ value v ∧ value v < delayInt v + 1 ∧
      isFinite (delayFrac v) = true ∧ value (delayFrac v) = value v - delayInt v)

/-- R294, R299: DLCFG sets the region that fits, flags RSRC where the request did not, and zeroes the region's words and
no other; DLCLR zeroes the unit's region and WI, and keeps BASE and CAP. -/
def Obligations.DelayConfigurationZeroesItsRegion : Prop :=
  ∀ (ra rb : Reg) (u : UnitIx) (s : State),
    let d := s.dlAt u
    let b := min (s.reg ra).toNat (s.limits.dmemWords - 3)
    let cap := min ((s.reg rb).toNat + 3) (s.limits.dmemWords - b)
    ObeysFrame (.dlcfg ra rb u) ⟨0x10, 0, ra, rb, 0, 0, 0, u⟩ s ∧
    ObeysFrame (.dlclr u) ⟨0x14, 0, 0, 0, 0, 0, 0, u⟩ s ∧
    (u.val < s.dl.length → s.prepared = true →
      (Completes (.dlcfg ra rb u) s
        (if (s.reg ra).toNat > s.limits.dmemWords - 3 ∨ (s.reg rb).toNat + 3 > s.limits.dmemWords - b
          then flagRSRC else 0)
        [.dl, .dmem] fun t =>
          SameRegs s t ∧ t.dlAt u = ⟨b, cap, 0⟩ ∧ OnlyDl u s t ∧ ZeroedOn b cap s.dmem t.dmem) ∧
      (d.Inv s.limits.dmemWords → Completes (.dlclr u) s 0 [.dl, .dmem] fun t =>
        SameRegs s t ∧ t.dlAt u = { d with wi := 0 } ∧ OnlyDl u s t ∧ ZeroedOn d.base d.cap s.dmem t.dmem))

/-- R296: DLWR advances WI modulo CAP and stores the sanitized sample at BASE + WI, and at no other word. -/
def Obligations.DelayWriteStoresOneWord : Prop :=
  ∀ (ra : Reg) (u : UnitIx) (s : State),
    let v := sanitize (s.reg ra)
    let d := s.dlAt u
    let wi := (d.wi + 1) % d.cap
    ObeysFrame (.dlwr ra u) ⟨0x11, 0, ra, 0, 0, 0, 0, u⟩ s ∧
    (u.val < s.dl.length → s.prepared = true → d.Inv s.limits.dmemWords → s.dmem.wf →
      Completes (.dlwr ra u) s v.2 [.dl, .dmem] fun t =>
        SameRegs s t ∧ t.dlAt u = { d with wi := wi } ∧ OnlyDl u s t ∧
        t.dmem.read (d.base + wi) = v.1 ∧ SameWordsExcept (d.base + wi) s.dmem t.dmem)

/-- R293, R303: after a DLWR the sample written is the tap of delay 0, and every older tap moves one delay further. -/
def Obligations.DelayWriteShiftsTheTaps : Prop :=
  ∀ (ra : Reg) (u : UnitIx) (s t : State), u.val < s.dl.length → s.prepared = true →
    (s.dlAt u).Inv s.limits.dmemWords → s.dmem.wf →
    exec (.dlwr ra u) s = .next t →
    tap t.dmem (t.dlAt u) 0 = (sanitize (s.reg ra)).1 ∧
    ∀ k, k + 1 < (s.dlAt u).cap → tap t.dmem (t.dlAt u) (k + 1) = tap s.dmem (s.dlAt u) k

/-- R297, R298, R300, R301, R302: DLRDL and DLRDC clamp the delay, interpolate between the taps (at delay 0 the newer
neighbour is the delay-0 tap), write the sanitized result to rd, flag what they clamped or replaced, and change no
other state. -/
def Obligations.DelayReadsComplete : Prop :=
  ∀ (rd ra : Reg) (u : UnitIx) (s : State),
    let d := s.dlAt u
    let D := delayClamp (s.reg ra) d
    let k := delayInt D.1
    let fr := delayFrac D.1
    let x := fun j : Nat => s.dmem.read (d.base + (((d.wi : Int) - j) % d.cap).toNat)
    let newer := if k = 0 then x 0 else x (k - 1)
    let c1 := fmul 0x3F000000 (fsub (x (k + 1)) newer)
    let c2 := fsub (fadd (fsub newer (fmul 0x40200000 (x k))) (fmul 0x40000000 (x (k + 1))))
      (fmul 0x3F000000 (x (k + 2)))
    let c3 := fadd (fmul 0x3F000000 (fsub (x (k + 2)) newer)) (fmul 0x3FC00000 (fsub (x k) (x (k + 1))))
    let linear := sanitize
      (if isZero fr then x k else fadd (fmul (fsub 0x3F800000 fr) (x k)) (fmul fr (x (k + 1))))
    let cubic := sanitize
      (if isZero fr then x k else fadd (fmul (fadd (fmul (fadd (fmul c3 fr) c2) fr) c1) fr) (x k))
    ObeysFrame (.dlrdl rd ra u) ⟨0x12, rd, ra, 0, 0, 0, 0, u⟩ s ∧
    ObeysFrame (.dlrdc rd ra u) ⟨0x13, rd, ra, 0, 0, 0, 0, u⟩ s ∧
    (u.val < s.dl.length → s.prepared = true → d.Inv s.limits.dmemWords →
      Completes (.dlrdl rd ra u) s (D.2 ||| linear.2) [] (Writes rd linear.1 s) ∧
      Completes (.dlrdc rd ra u) s (D.2 ||| cubic.2) [] (Writes rd cubic.1 s))

/-- R304: at an integer delay in [0, DMAX] both reads return the stored word BASE + ((WI - D) mod CAP) unchanged, and
flag nothing. -0.0 is the integer delay 0 too. -/
def Obligations.IntegerDelayReadsExactly : Prop :=
  ∀ (rd ra : Reg) (u : UnitIx) (s : State) (k : Nat), s.params.Legal → u.val < s.dl.length → s.prepared = true →
    (s.dlAt u).Inv s.limits.dmemWords →
    s.dmem.Finite → k ≤ (s.dlAt u).cap - 3 → s.reg ra = toF32 k ∨ (k = 0 ∧ s.reg ra = 0x80000000) →
    let d := s.dlAt u
    let stored := s.dmem.read (d.base + (((d.wi : Int) - k) % d.cap).toNat)
    Completes (.dlrdl rd ra u) s 0 [] (Writes rd stored s) ∧
    Completes (.dlrdc rd ra u) s 0 [] (Writes rd stored s)

/-! ## Envelope -/

/-- R332: at every prepared rate EnvCoef returns c, the value EXP32(-(1.0 /f n)) held in [2^-126, 1 - 2^-24], where
n = (τ *f SR) /f 1000.0 of the clamped τ, and g = 1 -f c, which lies in [2^-24, 1], whatever EXP32 returns within
P-EXP-RANGE (R14, log 2); the only flag is the clamp's. -/
def Obligations.EnvelopeCoefficientsLieInRange : Prop :=
  ∀ sr raw : Word, fLe rowFS.lo sr = true → fLe sr rowFS.hi = true →
    let tau := clampP raw rowTAU
    let e := exp32 (fneg (fdiv 0x3F800000 (fdiv (fmul tau.1 sr) 0x447A0000)))
    let c := (envCoef sr raw).1.1
    let g := (envCoef sr raw).1.2
    isFinite e = true ∧
    (value e < 1 / 2 ^ 126 → c = 0x00800000) ∧
    (1 - 1 / 2 ^ 24 < value e → c = 0x3F7FFFFF) ∧
    (1 / 2 ^ 126 ≤ value e → value e ≤ 1 - 1 / 2 ^ 24 → c = e) ∧
    IsEnvPair c g ∧ isFinite g = true ∧ 1 / 2 ^ 24 ≤ value g ∧ value g ≤ 1 ∧
    (envCoef sr raw).2 = tau.2

/-- R333, R370: at every prepared rate WinSamples rounds the window to the nearest number of samples, ties to even, held
in [1, RMS_WIN_MAX] (here `limit`), with RSRC exactly where the upper limit changed it; and LfoInc rounds (f/SR)·2^32
likewise, held at most 2^31, where f is the clamped frequency. -/
def Obligations.RateDependentCountsAreRounded : Prop :=
  ∀ (limit : Nat) (sr raw : Word), fLe rowFS.lo sr = true → fLe sr rowFS.hi = true →
    let samples := fdiv (fmul (clampP raw rowWIN).1 sr) f1000
    let ratio := fdiv (clampP raw (rowLFOF sr)).1 sr
    (isFinite samples = true ∧ 0 < value samples ∧
      ∃ n : Nat, |value samples - n| ≤ 1 / 2 ∧ (|value samples - n| = 1 / 2 → n % 2 = 0) ∧
        (winSamples limit sr raw).1 = min (max n 1) limit ∧
        (winSamples limit sr raw).2 =
          (clampP raw rowWIN).2 ||| (if limit < max n 1 then flagRSRC else 0)) ∧
    (isFinite ratio = true ∧ 0 ≤ value ratio ∧
      ∃ n : Nat, |value ratio * 2 ^ 32 - n| ≤ 1 / 2 ∧ (|value ratio * 2 ^ 32 - n| = 1 / 2 → n % 2 = 0) ∧
        (lfoInc sr raw).1.toNat = min n (2 ^ 31) ∧ (lfoInc sr raw).2 = (clampP raw (rowLFOF sr)).2)

/-- R337, R340, R343, R335: ENVCFG, ENVWIN and ENVCLR write their fields and clear the RMS state; LEVEL is cleared by
ENVCLR only. -/
def Obligations.EnvelopeConfigurationCompletes : Prop :=
  ∀ (pol : Policy) (det : Detector) (ra : Reg) (u : UnitIx) (s : State),
    let e := s.envAt u
    let win := winSamples s.limits.rmsWinMax s.sr (s.reg ra)
    ObeysFrame (.envcfg pol det u) ⟨0x18, 0, 0, 0, 0, 0, envcfgFn pol det, u⟩ s ∧
    ObeysFrame (.envwin ra u) ⟨0x1B, 0, ra, 0, 0, 0, 0, u⟩ s ∧
    ObeysFrame (.envclr u) ⟨0x1E, 0, 0, 0, 0, 0, 0, u⟩ s ∧
    (u.val < s.env.length → s.prepared = true →
      (Completes (.envcfg pol det u) s 0 [.env] fun t =>
        SameRegs s t ∧ OnlyEnv u s t ∧ t.envAt u = { e with pol := pol, det := det, ring := [], ridx := 0, sum := 0 }) ∧
      (Completes (.envwin ra u) s win.2 [.env] fun t =>
        SameRegs s t ∧ OnlyEnv u s t ∧
        t.envAt u = { e with rwin := s.reg ra, w := win.1, ring := [], ridx := 0, sum := 0 }) ∧
      (Completes (.envclr u) s 0 [.env] fun t =>
        SameRegs s t ∧ OnlyEnv u s t ∧ t.envAt u = { e with level := 0, ring := [], ridx := 0, sum := 0 }))

/-- R338, R339: ENVATK and ENVREL keep a pair whose raw word and rate are unchanged and write 0; otherwise they store
the word, recompute the pair at SR and write 1. -/
def Obligations.EnvelopeTimesRecomputeOnlyOnChange : Prop :=
  ∀ (rd ra : Reg) (u : UnitIx) (s : State),
    let e := s.envAt u
    let c := envCoef s.sr (s.reg ra)
    ObeysFrame (.envatk rd ra u) ⟨0x19, rd, ra, 0, 0, 0, 0, u⟩ s ∧
    ObeysFrame (.envrel rd ra u) ⟨0x1A, rd, ra, 0, 0, 0, 0, u⟩ s ∧
    (u.val < s.env.length → s.prepared = true →
      (e.rta = s.reg ra ∧ e.cfsa = s.sr → Completes (.envatk rd ra u) s 0 [] (Writes rd 0 s)) ∧
      (¬(e.rta = s.reg ra ∧ e.cfsa = s.sr) →
        Completes (.envatk rd ra u) s c.2 [.env] fun t =>
          Writes rd 1 s t ∧ OnlyEnv u s t ∧
          t.envAt u = { e with rta := s.reg ra, ac := c.1.1, ag := c.1.2, cfsa := s.sr }) ∧
      (e.rtr = s.reg ra ∧ e.cfsr = s.sr → Completes (.envrel rd ra u) s 0 [] (Writes rd 0 s)) ∧
      (¬(e.rtr = s.reg ra ∧ e.cfsr = s.sr) →
        Completes (.envrel rd ra u) s c.2 [.env] fun t =>
          Writes rd 1 s t ∧ OnlyEnv u s t ∧
          t.envAt u = { e with rtr := s.reg ra, rc := c.1.1, rg := c.1.2, cfsr := s.sr }))

/-- R334, R336, R341: ENVPROC. In peak mode the detector output is |x|; in RMS mode the square enters the ring at RIDX,
the oldest leaves the sum, and the output is the root of the mean, held at +0 from below, with the RMS state cleared on
a non-finite sum. The level then follows by the policy, sanitized, and is written to rd. -/
def Obligations.EnvelopeProcessesOneSample : Prop :=
  ∀ (rd ra : Reg) (u : UnitIx) (s : State),
    let i : Instr := .envproc rd ra u
    let v := s.envAt u
    let x := sanitize (s.reg ra)
    let sq := sanitize (fmul x.1 x.1)
    let sum := fsub (fadd v.sum sq.1) (v.ring.read v.ridx)
    let root := fun (total : Word) =>
      let mean := fdiv total (toF32 v.w)
      fsqrt (if fLt 0 mean then mean else 0)
    let follow := fun (e : Word) =>
      sanitize (if fLt v.level e then
        (if v.pol = .instantAttack then e else fadd (fmul v.ac v.level) (fmul v.ag e))
        else fadd (fmul v.rc v.level) (fmul v.rg e))
    let peakLevel := follow (fabs x.1)
    let rmsLevel := follow (root sum)
    let clearedLevel := follow (root 0)
    ObeysFrame i ⟨0x1C, rd, ra, 0, 0, 0, 0, u⟩ s ∧
    (u.val < s.env.length → s.prepared = true →
      (v.det = .peak →
        Completes i s (x.2 ||| peakLevel.2) [.env] fun t =>
          Writes rd peakLevel.1 s t ∧ OnlyEnv u s t ∧ t.envAt u = { v with level := peakLevel.1 }) ∧
      (v.det = .rms → isFinite sum = true →
        Completes i s (x.2 ||| sq.2 ||| rmsLevel.2) [.env] fun t =>
          Writes rd rmsLevel.1 s t ∧ OnlyEnv u s t ∧
          t.envAt u = { v with
            ring := v.ring.write v.ridx sq.1, ridx := (v.ridx + 1) % v.w, sum := sum, level := rmsLevel.1 }) ∧
      (v.det = .rms → isFinite sum = false →
        Completes i s (x.2 ||| sq.2 ||| flagNUM ||| clearedLevel.2) [.env] fun t =>
          Writes rd clearedLevel.1 s t ∧ OnlyEnv u s t ∧
          t.envAt u = { v with ring := [], ridx := 0, sum := 0, level := clearedLevel.1 }))

/-- R345, first part: in every state that meets the invariants, an ENVPROC result is finite and at least +0, and with
an instant attack a rising peak is followed exactly (R341). -/
def Obligations.EnvelopeLevelIsNeverNegative : Prop :=
  ∀ (rd ra : Reg) (u : UnitIx) (s : State), s.Inv → u.val < s.env.length → s.prepared = true →
    ∃ t, exec (.envproc rd ra u) s = .next t ∧
      isFinite (t.reg rd) = true ∧ (t.reg rd).sign = false ∧
      ((s.envAt u).det = .peak → (s.envAt u).pol = .instantAttack → isFinite (s.reg ra) = true →
        value (s.envAt u).level < |value (s.reg ra)| → t.reg rd = fabs (s.reg ra))

/-- R342, R345: ENVDB writes 20·LOG10_32 of the level floored at EPS_DB, always finite, and flags NUM where it replaced
a value. -/
def Obligations.DecibelConversionIsFloored : Prop :=
  ∀ (rd ra : Reg) (s : State),
    let v := sanitize (s.reg ra)
    let floored := fun (m : Word) =>
      let y := sanitize (fmul 0x41A00000 (log10_32 m))
      Completes (.envdb rd ra) s (v.2 ||| y.2) [] fun t => Writes rd y.1 s t ∧ isFinite (t.reg rd) = true
    ObeysFrame (.envdb rd ra) ⟨0x1D, rd, ra, 0, 0, 0, 0, 0⟩ s ∧
    (s.prepared = true →
      (value 0x3727C5AC < value v.1 → floored v.1 ∧ isFinite (log10_32 v.1) = true) ∧
      (value v.1 ≤ value 0x3727C5AC → floored 0x3727C5AC ∧ isFinite (log10_32 0x3727C5AC) = true))

/-! ## LFO -/

/-- R371, R372, R373, R376, R377, R378: LFOFRQ, LFOWAV, LFOOFS and LFOSEED write their own fields of the unit and never
PHASE or HELD; the offset is rte(v·2^32) mod 2^32; LFORDPH writes PHASE to rd; LFORST restarts the phase, the generator
from SEED, and HELD. -/
def Obligations.LfoConfigurationCompletes : Prop :=
  ∀ (wf : Waveform) (rd ra : Reg) (u : UnitIx) (s : State),
    let l := s.lfoAt u
    let v := s.reg ra
    let seed := if v = 0 then 1 else v
    ObeysFrame (.lfofrq ra u) ⟨0x20, 0, ra, 0, 0, 0, 0, u⟩ s ∧
    ObeysFrame (.lfowav wf u) ⟨0x21, 0, 0, 0, 0, 0, wf.toFn, u⟩ s ∧
    ObeysFrame (.lfoofs ra u) ⟨0x22, 0, ra, 0, 0, 0, 0, u⟩ s ∧
    ObeysFrame (.lfoseed ra u) ⟨0x24, 0, ra, 0, 0, 0, 0, u⟩ s ∧
    ObeysFrame (.lfordph rd u) ⟨0x25, rd, 0, 0, 0, 0, 0, u⟩ s ∧
    ObeysFrame (.lforst u) ⟨0x26, 0, 0, 0, 0, 0, 0, u⟩ s ∧
    (u.val < s.lfo.length → s.prepared = true →
      (Completes (.lfofrq ra u) s (lfoInc s.sr v).2 [.lfo] fun t =>
        SameRegs s t ∧ OnlyLfo u s t ∧ t.lfoAt u = { l with rfreq := v, inc := (lfoInc s.sr v).1 }) ∧
      (Completes (.lfowav wf u) s 0 [.lfo] fun t =>
        SameRegs s t ∧ OnlyLfo u s t ∧ t.lfoAt u = { l with wave := wf }) ∧
      (isFinite v = false → Completes (.lfoofs ra u) s flagCLAMP [.lfo] fun t =>
        SameRegs s t ∧ OnlyLfo u s t ∧ t.lfoAt u = { l with ofs := 0 }) ∧
      (isFinite v = true → ∃ n : Int, |value v * 2 ^ 32 - n| ≤ 1 / 2 ∧ (|value v * 2 ^ 32 - n| = 1 / 2 → n % 2 = 0) ∧
        Completes (.lfoofs ra u) s 0 [.lfo] fun t =>
          SameRegs s t ∧ OnlyLfo u s t ∧ t.lfoAt u = { l with ofs := BitVec.ofInt 32 n }) ∧
      (Completes (.lfoseed ra u) s (if v = 0 then flagCLAMP else 0) [.lfo] fun t =>
        SameRegs s t ∧ OnlyLfo u s t ∧ t.lfoAt u = { l with seed := seed, rng := seed }) ∧
      Completes (.lfordph rd u) s 0 [] (Writes rd l.phase s) ∧
      (Completes (.lforst u) s 0 [.lfo] fun t =>
        SameRegs s t ∧ OnlyLfo u s t ∧ t.lfoAt u = { l with phase := 0, rng := l.seed, held := 0 }))

/-- R374, R375: LFOTICK advances the phase first, steps the generator and takes a new HELD value on a carry out of 32
bits, whatever the waveform, and writes the waveform at PHASE + OFS to rd; it flags nothing. -/
def Obligations.LfoTickAdvancesThenEvaluates : Prop :=
  ∀ (rd : Reg) (u : UnitIx) (s : State),
    let i : Instr := .lfotick rd u
    let l := s.lfoAt u
    let phase : Word := BitVec.ofNat 32 ((l.phase.toNat + l.inc.toNat) % 2 ^ 32)
    let point : Word := BitVec.ofNat 32 ((l.phase.toNat + l.inc.toNat + l.ofs.toNat) % 2 ^ 32)
    let drawn := xorshift32 l.rng
    let newHeld := rn32Int drawn.toInt 31
    ObeysFrame i ⟨0x23, rd, 0, 0, 0, 0, 0, u⟩ s ∧
    (u.val < s.lfo.length → s.prepared = true →
      (l.phase.toNat + l.inc.toNat < 2 ^ 32 →
        Completes i s 0 [.lfo] fun t =>
          Writes rd (waveAt l.wave point l.held) s t ∧ OnlyLfo u s t ∧ t.lfoAt u = { l with phase := phase }) ∧
      (2 ^ 32 ≤ l.phase.toNat + l.inc.toNat →
        Completes i s 0 [.lfo] fun t =>
          Writes rd (waveAt l.wave point newHeld) s t ∧ OnlyLfo u s t ∧
          t.lfoAt u = { l with phase := phase, rng := drawn, held := newHeld }))

/-- R387: PHASE changes only by LFOTICK, which adds INC modulo 2^32, LFORST, RESET and PREPARE; after n ticks of a unit
its phase has advanced by exactly n·INC modulo 2^32. -/
def Obligations.PhaseAdvancesExactly : Prop :=
  (∀ (i : Instr) (s t : State) (v : UnitIx), exec i s = .next t → i.global = false →
    (∀ rd, i ≠ .lfotick rd v) → i ≠ .lforst v → (t.lfoAt v).phase = (s.lfoAt v).phase) ∧
  (∀ (rd : Reg) (u : UnitIx) (n : Nat) (s : State), u.val < s.lfo.length → s.prepared = true →
    ∃ t, runOps (List.replicate n (.command (.lfotick rd u))) s = .next t ∧
      (t.lfoAt u).phase.toNat = ((s.lfoAt u).phase.toNat + n * (s.lfoAt u).inc.toNat) % 2 ^ 32)

/-- R379 to R386: the five waveforms at every phase; the table T of the sine, by the words R386 lists for T[0..256] and
the symmetries of R380; and every value is finite and lies in [-1.0, +1.0], HELD doing so for the random waveform. -/
def Obligations.WaveformsStayInRange : Prop :=
  (∀ (w : Waveform) (p held : Word), fLe (fabs held) f1 = true →
    isFinite (waveAt w p held) = true ∧ |value (waveAt w p held)| ≤ 1) ∧
  (∀ p held : Word,
    (∃ fr, isFinite fr = true ∧ value fr = ((p.toNat % 2 ^ 22 : Nat) : ℚ) / 2 ^ 22 ∧
      waveAt .sine p held =
        (let i := p.toNat / 2 ^ 22
         fadd (sineTable i) (fmul fr (fsub (sineTable (i + 1)) (sineTable i))))) ∧
    (∃ t, IsNearestEven (((p.toNat % 2 ^ 30 : Nat) : ℚ) / 2 ^ 30) t ∧
      waveAt .triangle p held =
        if p.toNat < 2 ^ 30 then t
        else if p.toNat < 2 ^ 31 then fsub 0x3F800000 t
        else if p.toNat < 3 * 2 ^ 30 then fsub 0x00000000 t
        else fsub t 0x3F800000) ∧
    waveAt .square p held = (if p.toNat < 2 ^ 31 then 0x3F800000 else 0xBF800000) ∧
    (∃ t, IsNearestEven ((p.toNat : ℚ) / 2 ^ 31) t ∧ waveAt .sawtooth p held = fsub t 0x3F800000) ∧
    waveAt .random p held = held) ∧
  (∀ (k : Nat) (held : Word), k < 1024 → waveAt .sine (BitVec.ofNat 32 (k * 2 ^ 22)) held = sineTable k) ∧
  (List.range 257).map sineTable = sineListing ∧
  (∀ i : Nat, i ≤ 256 → sineTable (512 - i) = sineTable i) ∧
  (∀ i : Nat, 0 < i → i < 512 → sineTable (512 + i) = sineTable i ^^^ 0x80000000) ∧
  sineTable 512 = 0x00000000 ∧ sineTable 1024 = 0x00000000

/-! ## Convolver -/

/-- R411, R422, R423, R424, R414: CVCFG sets the nearest block size and clears the stream, keeping IR and staging;
CVLAT writes B; CVUNLD unloads and clears the stream; CVCLR clears the stream only. -/
def Obligations.ConvolverConfigurationCompletes : Prop :=
  ∀ (rd ra : Reg) (u : UnitIx) (s : State),
    let c := s.cvAt u
    let n := (s.reg ra).toNat
    ObeysFrame (.cvcfg ra u) ⟨0x28, 0, ra, 0, 0, 0, 0, u⟩ s ∧
    ObeysFrame (.cvlat rd u) ⟨0x2C, rd, 0, 0, 0, 0, 0, u⟩ s ∧
    ObeysFrame (.cvunld u) ⟨0x2D, 0, 0, 0, 0, 0, 0, u⟩ s ∧
    ObeysFrame (.cvclr u) ⟨0x2E, 0, 0, 0, 0, 0, 0, u⟩ s ∧
    (u.val < s.cv.length → s.prepared = true →
      (Completes (.cvcfg ra u) s (if nearestBlock n = n then 0 else flagCLAMP) [.cv] fun t =>
        SameRegs s t ∧ OnlyCv u s t ∧
        t.cvAt u = { c with blk := nearestBlock n, n := 0, inb := [], outb := [], hist := [] }) ∧
      (Completes (.cvlat rd u) s 0 [] (Writes rd (BitVec.ofNat 32 c.blk) s)) ∧
      (Completes (.cvunld u) s 0 [.cv] fun t =>
        SameRegs s t ∧ OnlyCv u s t ∧
        t.cvAt u = { c with loaded := false, n := 0, inb := [], outb := [], hist := [] }) ∧
      (Completes (.cvclr u) s 0 [.cv] fun t =>
        SameRegs s t ∧ OnlyCv u s t ∧ t.cvAt u = { c with n := 0, inb := [], outb := [], hist := [] }))

/-- R412, R413: CVPUSH appends the raw word to the staging buffer, or drops it with RSRC where the buffer is full;
CVLOAD commits a staged IR that is not empty and all finite and writes 1, and otherwise unloads, flags FMT and writes 0;
either way the staging buffer is emptied and the stream cleared. -/
def Obligations.ConvolverLoadingCompletes : Prop :=
  ∀ (rd ra : Reg) (u : UnitIx) (s : State),
    let c := s.cvAt u
    let good := c.stg ≠ [] ∧ ∀ h ∈ c.stg, isFinite h = true
    ObeysFrame (.cvpush ra u) ⟨0x29, 0, ra, 0, 0, 0, 0, u⟩ s ∧
    ObeysFrame (.cvload rd u) ⟨0x2A, rd, 0, 0, 0, 0, 0, u⟩ s ∧
    (u.val < s.cv.length → s.prepared = true →
      (c.stg.length < s.limits.irMaxLen → Completes (.cvpush ra u) s 0 [.cv] fun t =>
        SameRegs s t ∧ OnlyCv u s t ∧ t.cvAt u = { c with stg := c.stg ++ [s.reg ra] }) ∧
      (s.limits.irMaxLen ≤ c.stg.length → Completes (.cvpush ra u) s flagRSRC [] (SameRegs s)) ∧
      (good → Completes (.cvload rd u) s 0 [.cv] fun t =>
        Writes rd 1 s t ∧ OnlyCv u s t ∧
        t.cvAt u = { c with loaded := true, ir := c.stg, stg := [], n := 0, inb := [], outb := [], hist := [] }) ∧
      (¬good → Completes (.cvload rd u) s flagFMT [.cv] fun t =>
        Writes rd 0 s t ∧ OnlyCv u s t ∧
        t.cvAt u = { c with loaded := false, stg := [], n := 0, inb := [], outb := [], hist := [] }))

/-- R415, R417: CVPROC writes the output word of position N as it was before the sample, takes the sample into INB and
HIST, and, where it completes the block, puts the sanitized block result into OUTB, flags NUM for a replaced value and
returns N to 0. -/
def Obligations.ConvolverProcessesOneSample : Prop :=
  ∀ (rd ra : Reg) (u : UnitIx) (s : State),
    let i : Instr := .cvproc rd ra u
    let c := s.cvAt u
    let x := sanitize (s.reg ra)
    let taken := { c with inb := c.inb.write c.n x.1, hist := x.1 :: c.hist, n := c.n + 1 }
    ObeysFrame i ⟨0x2B, rd, ra, 0, 0, 0, 0, u⟩ s ∧
    (u.val < s.cv.length → s.prepared = true →
      (c.n + 1 ≠ c.blk → Completes i s x.2 [.cv] fun t =>
        Writes rd (c.outb.read c.n) s t ∧ OnlyCv u s t ∧ t.cvAt u = taken ∧ t.cvAt u = (c.push s.limits x.1).1) ∧
      (c.n + 1 = c.blk →
        Completes i s
          (if ∀ k, k < c.blk → isFinite (taken.blockRaw s.limits k) = true then x.2 else x.2 ||| flagNUM) [.cv] fun t =>
            Writes rd (c.outb.read c.n) s t ∧ OnlyCv u s t ∧ t.cvAt u = (c.push s.limits x.1).1 ∧
            t.cvAt u = { taken with n := 0, outb := (t.cvAt u).outb } ∧
            (∀ k, k < c.blk → (t.cvAt u).outb.read k = (sanitize (taken.blockRaw s.limits k)).1) ∧
            (∀ k, c.blk ≤ k → (t.cvAt u).outb.read k = 0)))

/-- R416, R417, R420: of a completed block, output i is EH[0] *f x_{jB+i} for one tap; for more taps, a finite output
lies within CONV_TOL of the exact convolution R(jB+i), scaled by the sum of |EH[k]| and by any bound M of the last
(P+2)·B inputs. HIST has the newest input first, so x_{jB+i-k} is its entry B-1-i+k. -/
def Obligations.BlockOutputIsWithinTolerance : Prop :=
  ∀ (p : Limits) (c : CvUnit) (v : Word) (i : Nat), 0 < p.convTolDen → c.Inv p.irMaxLen → isFinite v = true →
    c.n + 1 = c.blk → i < c.blk →
    let eh := if c.loaded then c.ir else [0x3F800000]
    let hist := v :: c.hist
    let out := (c.accept v).blockRaw p i
    (eh.length = 1 → out = fmul (eh.getD 0 0) (hist.getD (c.blk - 1 - i) 0)) ∧
    (2 ≤ eh.length → isFinite out = false ∨ ∀ M : ℚ,
      (∀ k, k < ((eh.length + c.blk - 1) / c.blk + 2) * c.blk → |value (hist.getD k 0)| ≤ M) →
      |value out - ((List.range eh.length).map fun k =>
          value (eh.getD k 0) * value (hist.getD (c.blk - 1 - i + k) 0)).sum| ≤
        (p.convTolNum : ℚ) / p.convTolDen * ((eh.map fun h => |value h|).sum) * M)

/-- R425: from a cleared stream a unit whose effective IR is one tap h0 emits B zeros and then h0 *f x_n, sanitized,
for each input in turn; for the tap 1.0, loaded or not loaded, the inputs themselves, bit for bit. -/
def Obligations.SingleTapConvolverDelaysByOneBlock : Prop :=
  ∀ (p : Limits) (c : CvUnit) (h0 : Word) (xs : List Word), c.Cleared → 0 < c.blk → c.eh = [h0] →
    (∀ x ∈ xs, isFinite x = true) →
    c.outputs p xs =
      (List.replicate c.blk 0 ++ xs.map fun x => (sanitize (fmul h0 x)).1).take xs.length ∧
    (h0 = 0x3F800000 → c.outputs p xs = (List.replicate c.blk 0 ++ xs).take xs.length)

/-- R426 at block granularity, for every IR: the first B outputs after a clear are +0.0, and the outputs of a block do
not depend on the inputs of that block or of later ones. -/
def Obligations.ConvolverOutputLagsItsInput : Prop :=
  ∀ (p : Limits) (c : CvUnit) (xs ys : List Word) (n : Nat), c.Cleared → 0 < c.blk → n < xs.length → n < ys.length →
    (n < c.blk → (c.outputs p xs).getD n 0 = 0) ∧
    (xs.take (n / c.blk * c.blk) = ys.take (n / c.blk * c.blk) →
      (c.outputs p xs).getD n 0 = (c.outputs p ys).getD n 0)

/-! ## Parameter gate -/

/-- R461, R462, R463: PGSET stores the raw word; PGCHK writes whether the slot changed since its last check and re-arms
it; PGGET writes the value and consumes nothing. -/
def Obligations.ParameterGateCommandsComplete : Prop :=
  ∀ (rd ra : Reg) (u : UnitIx) (s : State),
    let p := s.pgAt u
    ObeysFrame (.pgset ra u) ⟨0x30, 0, ra, 0, 0, 0, 0, u⟩ s ∧
    ObeysFrame (.pgchk rd u) ⟨0x31, rd, 0, 0, 0, 0, 0, u⟩ s ∧
    ObeysFrame (.pgget rd u) ⟨0x32, rd, 0, 0, 0, 0, 0, u⟩ s ∧
    (u.val < s.pg.length → s.prepared = true →
      (Completes (.pgset ra u) s 0 [.pg] fun t =>
        SameRegs s t ∧ OnlyPg u s t ∧ t.pgAt u = { p with pval := s.reg ra }) ∧
      (Completes (.pgchk rd u) s 0 [.pg] fun t =>
        Writes rd (if p.valid = false ∨ p.pval ≠ p.last then 1 else 0) s t ∧ OnlyPg u s t ∧
        t.pgAt u = { p with last := p.pval, valid := true }) ∧
      Completes (.pgget rd u) s 0 [] (Writes rd p.pval s))

/-- R464: of two consecutive checks of a slot, with no PREPARE or RESET between them, the second returns 1 exactly when
the value at the second differs, as a bit pattern, from the value at the first. -/
def Obligations.GateReportsChangesOnly : Prop :=
  ∀ (rd rd' : Reg) (u : UnitIx) (ops : List HostOp) (s t1 t2 t3 : State), u.val < s.pg.length → s.prepared = true →
    (∀ op ∈ ops, ∀ i, op = .command i → i.global = false ∧ ∀ r, i ≠ .pgchk r u) →
    exec (.pgchk rd u) s = .next t1 → runOps ops t1 = .next t2 → exec (.pgchk rd' u) t2 = .next t3 →
    t3.reg rd' = if (t2.pgAt u).pval ≠ (s.pgAt u).pval then 1 else 0
end

