-- ==== Sys2Proof/Laws/State.lean ====
section
/-! SUPPORT. One equation for each field of State under each named update, so that no later proof unfolds a record
update. -/

namespace Sys2Proof.Machine

@[simp] theorem State.setReg_limits (s : State) (r : Reg) (v : Word) : (s.setReg r v).limits = s.limits := rfl
@[simp] theorem State.setReg_regs (s : State) (r : Reg) (v : Word) :
    (s.setReg r v).regs = s.regs.set r.val v r.isLt := rfl
@[simp] theorem State.setReg_status (s : State) (r : Reg) (v : Word) : (s.setReg r v).status = s.status := rfl
@[simp] theorem State.setReg_irqen (s : State) (r : Reg) (v : Word) : (s.setReg r v).irqen = s.irqen := rfl
@[simp] theorem State.setReg_errcmd (s : State) (r : Reg) (v : Word) : (s.setReg r v).errcmd = s.errcmd := rfl
@[simp] theorem State.setReg_sr (s : State) (r : Reg) (v : Word) : (s.setReg r v).sr = s.sr := rfl
@[simp] theorem State.setReg_maxblk (s : State) (r : Reg) (v : Word) : (s.setReg r v).maxblk = s.maxblk := rfl
@[simp] theorem State.setReg_prepared (s : State) (r : Reg) (v : Word) : (s.setReg r v).prepared = s.prepared := rfl
@[simp] theorem State.setReg_bq (s : State) (r : Reg) (v : Word) : (s.setReg r v).bq = s.bq := rfl
@[simp] theorem State.setReg_dl (s : State) (r : Reg) (v : Word) : (s.setReg r v).dl = s.dl := rfl
@[simp] theorem State.setReg_dmem (s : State) (r : Reg) (v : Word) : (s.setReg r v).dmem = s.dmem := rfl
@[simp] theorem State.setReg_env (s : State) (r : Reg) (v : Word) : (s.setReg r v).env = s.env := rfl
@[simp] theorem State.setReg_lfo (s : State) (r : Reg) (v : Word) : (s.setReg r v).lfo = s.lfo := rfl
@[simp] theorem State.setReg_cv (s : State) (r : Reg) (v : Word) : (s.setReg r v).cv = s.cv := rfl
@[simp] theorem State.setReg_pg (s : State) (r : Reg) (v : Word) : (s.setReg r v).pg = s.pg := rfl
@[simp] theorem State.setReg_pending (s : State) (r : Reg) (v : Word) : (s.setReg r v).pending = s.pending := rfl
@[simp] theorem State.setReg_ci (s : State) (r : Reg) (v : Word) : (s.setReg r v).ci = s.ci := rfl
@[simp] theorem State.setReg_seen (s : State) (r : Reg) (v : Word) : (s.setReg r v).seen = s.seen := rfl

@[simp] theorem State.setBq_limits (s : State) (u : UnitIx) (x : BqUnit) : (s.setBq u x).limits = s.limits := rfl
@[simp] theorem State.setBq_regs (s : State) (u : UnitIx) (x : BqUnit) : (s.setBq u x).regs = s.regs := rfl
@[simp] theorem State.setBq_status (s : State) (u : UnitIx) (x : BqUnit) : (s.setBq u x).status = s.status := rfl
@[simp] theorem State.setBq_irqen (s : State) (u : UnitIx) (x : BqUnit) : (s.setBq u x).irqen = s.irqen := rfl
@[simp] theorem State.setBq_errcmd (s : State) (u : UnitIx) (x : BqUnit) : (s.setBq u x).errcmd = s.errcmd := rfl
@[simp] theorem State.setBq_sr (s : State) (u : UnitIx) (x : BqUnit) : (s.setBq u x).sr = s.sr := rfl
@[simp] theorem State.setBq_maxblk (s : State) (u : UnitIx) (x : BqUnit) : (s.setBq u x).maxblk = s.maxblk := rfl
@[simp] theorem State.setBq_prepared (s : State) (u : UnitIx) (x : BqUnit) : (s.setBq u x).prepared = s.prepared := rfl
@[simp] theorem State.setBq_bq (s : State) (u : UnitIx) (x : BqUnit) : (s.setBq u x).bq = s.bq.set u.val x := rfl
@[simp] theorem State.setBq_dl (s : State) (u : UnitIx) (x : BqUnit) : (s.setBq u x).dl = s.dl := rfl
@[simp] theorem State.setBq_dmem (s : State) (u : UnitIx) (x : BqUnit) : (s.setBq u x).dmem = s.dmem := rfl
@[simp] theorem State.setBq_env (s : State) (u : UnitIx) (x : BqUnit) : (s.setBq u x).env = s.env := rfl
@[simp] theorem State.setBq_lfo (s : State) (u : UnitIx) (x : BqUnit) : (s.setBq u x).lfo = s.lfo := rfl
@[simp] theorem State.setBq_cv (s : State) (u : UnitIx) (x : BqUnit) : (s.setBq u x).cv = s.cv := rfl
@[simp] theorem State.setBq_pg (s : State) (u : UnitIx) (x : BqUnit) : (s.setBq u x).pg = s.pg := rfl
@[simp] theorem State.setBq_pending (s : State) (u : UnitIx) (x : BqUnit) : (s.setBq u x).pending = s.pending := rfl
@[simp] theorem State.setBq_ci (s : State) (u : UnitIx) (x : BqUnit) : (s.setBq u x).ci = s.ci := rfl
@[simp] theorem State.setBq_seen (s : State) (u : UnitIx) (x : BqUnit) : (s.setBq u x).seen = s.seen := rfl

@[simp] theorem State.setDl_limits (s : State) (u : UnitIx) (x : DlUnit) : (s.setDl u x).limits = s.limits := rfl
@[simp] theorem State.setDl_regs (s : State) (u : UnitIx) (x : DlUnit) : (s.setDl u x).regs = s.regs := rfl
@[simp] theorem State.setDl_status (s : State) (u : UnitIx) (x : DlUnit) : (s.setDl u x).status = s.status := rfl
@[simp] theorem State.setDl_irqen (s : State) (u : UnitIx) (x : DlUnit) : (s.setDl u x).irqen = s.irqen := rfl
@[simp] theorem State.setDl_errcmd (s : State) (u : UnitIx) (x : DlUnit) : (s.setDl u x).errcmd = s.errcmd := rfl
@[simp] theorem State.setDl_sr (s : State) (u : UnitIx) (x : DlUnit) : (s.setDl u x).sr = s.sr := rfl
@[simp] theorem State.setDl_maxblk (s : State) (u : UnitIx) (x : DlUnit) : (s.setDl u x).maxblk = s.maxblk := rfl
@[simp] theorem State.setDl_prepared (s : State) (u : UnitIx) (x : DlUnit) : (s.setDl u x).prepared = s.prepared := rfl
@[simp] theorem State.setDl_bq (s : State) (u : UnitIx) (x : DlUnit) : (s.setDl u x).bq = s.bq := rfl
@[simp] theorem State.setDl_dl (s : State) (u : UnitIx) (x : DlUnit) : (s.setDl u x).dl = s.dl.set u.val x := rfl
@[simp] theorem State.setDl_dmem (s : State) (u : UnitIx) (x : DlUnit) : (s.setDl u x).dmem = s.dmem := rfl
@[simp] theorem State.setDl_env (s : State) (u : UnitIx) (x : DlUnit) : (s.setDl u x).env = s.env := rfl
@[simp] theorem State.setDl_lfo (s : State) (u : UnitIx) (x : DlUnit) : (s.setDl u x).lfo = s.lfo := rfl
@[simp] theorem State.setDl_cv (s : State) (u : UnitIx) (x : DlUnit) : (s.setDl u x).cv = s.cv := rfl
@[simp] theorem State.setDl_pg (s : State) (u : UnitIx) (x : DlUnit) : (s.setDl u x).pg = s.pg := rfl
@[simp] theorem State.setDl_pending (s : State) (u : UnitIx) (x : DlUnit) : (s.setDl u x).pending = s.pending := rfl
@[simp] theorem State.setDl_ci (s : State) (u : UnitIx) (x : DlUnit) : (s.setDl u x).ci = s.ci := rfl
@[simp] theorem State.setDl_seen (s : State) (u : UnitIx) (x : DlUnit) : (s.setDl u x).seen = s.seen := rfl

@[simp] theorem State.setDmem_limits (s : State) (m : Mem) : (s.setDmem m).limits = s.limits := rfl
@[simp] theorem State.setDmem_regs (s : State) (m : Mem) : (s.setDmem m).regs = s.regs := rfl
@[simp] theorem State.setDmem_status (s : State) (m : Mem) : (s.setDmem m).status = s.status := rfl
@[simp] theorem State.setDmem_irqen (s : State) (m : Mem) : (s.setDmem m).irqen = s.irqen := rfl
@[simp] theorem State.setDmem_errcmd (s : State) (m : Mem) : (s.setDmem m).errcmd = s.errcmd := rfl
@[simp] theorem State.setDmem_sr (s : State) (m : Mem) : (s.setDmem m).sr = s.sr := rfl
@[simp] theorem State.setDmem_maxblk (s : State) (m : Mem) : (s.setDmem m).maxblk = s.maxblk := rfl
@[simp] theorem State.setDmem_prepared (s : State) (m : Mem) : (s.setDmem m).prepared = s.prepared := rfl
@[simp] theorem State.setDmem_bq (s : State) (m : Mem) : (s.setDmem m).bq = s.bq := rfl
@[simp] theorem State.setDmem_dl (s : State) (m : Mem) : (s.setDmem m).dl = s.dl := rfl
@[simp] theorem State.setDmem_dmem (s : State) (m : Mem) : (s.setDmem m).dmem = m := rfl
@[simp] theorem State.setDmem_env (s : State) (m : Mem) : (s.setDmem m).env = s.env := rfl
@[simp] theorem State.setDmem_lfo (s : State) (m : Mem) : (s.setDmem m).lfo = s.lfo := rfl
@[simp] theorem State.setDmem_cv (s : State) (m : Mem) : (s.setDmem m).cv = s.cv := rfl
@[simp] theorem State.setDmem_pg (s : State) (m : Mem) : (s.setDmem m).pg = s.pg := rfl
@[simp] theorem State.setDmem_pending (s : State) (m : Mem) : (s.setDmem m).pending = s.pending := rfl
@[simp] theorem State.setDmem_ci (s : State) (m : Mem) : (s.setDmem m).ci = s.ci := rfl
@[simp] theorem State.setDmem_seen (s : State) (m : Mem) : (s.setDmem m).seen = s.seen := rfl

@[simp] theorem State.setEnv_limits (s : State) (u : UnitIx) (x : EnvUnit) : (s.setEnv u x).limits = s.limits := rfl
@[simp] theorem State.setEnv_regs (s : State) (u : UnitIx) (x : EnvUnit) : (s.setEnv u x).regs = s.regs := rfl
@[simp] theorem State.setEnv_status (s : State) (u : UnitIx) (x : EnvUnit) : (s.setEnv u x).status = s.status := rfl
@[simp] theorem State.setEnv_irqen (s : State) (u : UnitIx) (x : EnvUnit) : (s.setEnv u x).irqen = s.irqen := rfl
@[simp] theorem State.setEnv_errcmd (s : State) (u : UnitIx) (x : EnvUnit) : (s.setEnv u x).errcmd = s.errcmd := rfl
@[simp] theorem State.setEnv_sr (s : State) (u : UnitIx) (x : EnvUnit) : (s.setEnv u x).sr = s.sr := rfl
@[simp] theorem State.setEnv_maxblk (s : State) (u : UnitIx) (x : EnvUnit) : (s.setEnv u x).maxblk = s.maxblk := rfl
@[simp] theorem State.setEnv_prepared (s : State) (u : UnitIx) (x : EnvUnit) :
    (s.setEnv u x).prepared = s.prepared := rfl
@[simp] theorem State.setEnv_bq (s : State) (u : UnitIx) (x : EnvUnit) : (s.setEnv u x).bq = s.bq := rfl
@[simp] theorem State.setEnv_dl (s : State) (u : UnitIx) (x : EnvUnit) : (s.setEnv u x).dl = s.dl := rfl
@[simp] theorem State.setEnv_dmem (s : State) (u : UnitIx) (x : EnvUnit) : (s.setEnv u x).dmem = s.dmem := rfl
@[simp] theorem State.setEnv_env (s : State) (u : UnitIx) (x : EnvUnit) : (s.setEnv u x).env = s.env.set u.val x := rfl
@[simp] theorem State.setEnv_lfo (s : State) (u : UnitIx) (x : EnvUnit) : (s.setEnv u x).lfo = s.lfo := rfl
@[simp] theorem State.setEnv_cv (s : State) (u : UnitIx) (x : EnvUnit) : (s.setEnv u x).cv = s.cv := rfl
@[simp] theorem State.setEnv_pg (s : State) (u : UnitIx) (x : EnvUnit) : (s.setEnv u x).pg = s.pg := rfl
@[simp] theorem State.setEnv_pending (s : State) (u : UnitIx) (x : EnvUnit) : (s.setEnv u x).pending = s.pending := rfl
@[simp] theorem State.setEnv_ci (s : State) (u : UnitIx) (x : EnvUnit) : (s.setEnv u x).ci = s.ci := rfl
@[simp] theorem State.setEnv_seen (s : State) (u : UnitIx) (x : EnvUnit) : (s.setEnv u x).seen = s.seen := rfl

@[simp] theorem State.setLfo_limits (s : State) (u : UnitIx) (x : LfoUnit) : (s.setLfo u x).limits = s.limits := rfl
@[simp] theorem State.setLfo_regs (s : State) (u : UnitIx) (x : LfoUnit) : (s.setLfo u x).regs = s.regs := rfl
@[simp] theorem State.setLfo_status (s : State) (u : UnitIx) (x : LfoUnit) : (s.setLfo u x).status = s.status := rfl
@[simp] theorem State.setLfo_irqen (s : State) (u : UnitIx) (x : LfoUnit) : (s.setLfo u x).irqen = s.irqen := rfl
@[simp] theorem State.setLfo_errcmd (s : State) (u : UnitIx) (x : LfoUnit) : (s.setLfo u x).errcmd = s.errcmd := rfl
@[simp] theorem State.setLfo_sr (s : State) (u : UnitIx) (x : LfoUnit) : (s.setLfo u x).sr = s.sr := rfl
@[simp] theorem State.setLfo_maxblk (s : State) (u : UnitIx) (x : LfoUnit) : (s.setLfo u x).maxblk = s.maxblk := rfl
@[simp] theorem State.setLfo_prepared (s : State) (u : UnitIx) (x : LfoUnit) :
    (s.setLfo u x).prepared = s.prepared := rfl
@[simp] theorem State.setLfo_bq (s : State) (u : UnitIx) (x : LfoUnit) : (s.setLfo u x).bq = s.bq := rfl
@[simp] theorem State.setLfo_dl (s : State) (u : UnitIx) (x : LfoUnit) : (s.setLfo u x).dl = s.dl := rfl
@[simp] theorem State.setLfo_dmem (s : State) (u : UnitIx) (x : LfoUnit) : (s.setLfo u x).dmem = s.dmem := rfl
@[simp] theorem State.setLfo_env (s : State) (u : UnitIx) (x : LfoUnit) : (s.setLfo u x).env = s.env := rfl
@[simp] theorem State.setLfo_lfo (s : State) (u : UnitIx) (x : LfoUnit) : (s.setLfo u x).lfo = s.lfo.set u.val x := rfl
@[simp] theorem State.setLfo_cv (s : State) (u : UnitIx) (x : LfoUnit) : (s.setLfo u x).cv = s.cv := rfl
@[simp] theorem State.setLfo_pg (s : State) (u : UnitIx) (x : LfoUnit) : (s.setLfo u x).pg = s.pg := rfl
@[simp] theorem State.setLfo_pending (s : State) (u : UnitIx) (x : LfoUnit) : (s.setLfo u x).pending = s.pending := rfl
@[simp] theorem State.setLfo_ci (s : State) (u : UnitIx) (x : LfoUnit) : (s.setLfo u x).ci = s.ci := rfl
@[simp] theorem State.setLfo_seen (s : State) (u : UnitIx) (x : LfoUnit) : (s.setLfo u x).seen = s.seen := rfl

@[simp] theorem State.setCv_limits (s : State) (u : UnitIx) (x : CvUnit) : (s.setCv u x).limits = s.limits := rfl
@[simp] theorem State.setCv_regs (s : State) (u : UnitIx) (x : CvUnit) : (s.setCv u x).regs = s.regs := rfl
@[simp] theorem State.setCv_status (s : State) (u : UnitIx) (x : CvUnit) : (s.setCv u x).status = s.status := rfl
@[simp] theorem State.setCv_irqen (s : State) (u : UnitIx) (x : CvUnit) : (s.setCv u x).irqen = s.irqen := rfl
@[simp] theorem State.setCv_errcmd (s : State) (u : UnitIx) (x : CvUnit) : (s.setCv u x).errcmd = s.errcmd := rfl
@[simp] theorem State.setCv_sr (s : State) (u : UnitIx) (x : CvUnit) : (s.setCv u x).sr = s.sr := rfl
@[simp] theorem State.setCv_maxblk (s : State) (u : UnitIx) (x : CvUnit) : (s.setCv u x).maxblk = s.maxblk := rfl
@[simp] theorem State.setCv_prepared (s : State) (u : UnitIx) (x : CvUnit) : (s.setCv u x).prepared = s.prepared := rfl
@[simp] theorem State.setCv_bq (s : State) (u : UnitIx) (x : CvUnit) : (s.setCv u x).bq = s.bq := rfl
@[simp] theorem State.setCv_dl (s : State) (u : UnitIx) (x : CvUnit) : (s.setCv u x).dl = s.dl := rfl
@[simp] theorem State.setCv_dmem (s : State) (u : UnitIx) (x : CvUnit) : (s.setCv u x).dmem = s.dmem := rfl
@[simp] theorem State.setCv_env (s : State) (u : UnitIx) (x : CvUnit) : (s.setCv u x).env = s.env := rfl
@[simp] theorem State.setCv_lfo (s : State) (u : UnitIx) (x : CvUnit) : (s.setCv u x).lfo = s.lfo := rfl
@[simp] theorem State.setCv_cv (s : State) (u : UnitIx) (x : CvUnit) : (s.setCv u x).cv = s.cv.set u.val x := rfl
@[simp] theorem State.setCv_pg (s : State) (u : UnitIx) (x : CvUnit) : (s.setCv u x).pg = s.pg := rfl
@[simp] theorem State.setCv_pending (s : State) (u : UnitIx) (x : CvUnit) : (s.setCv u x).pending = s.pending := rfl
@[simp] theorem State.setCv_ci (s : State) (u : UnitIx) (x : CvUnit) : (s.setCv u x).ci = s.ci := rfl
@[simp] theorem State.setCv_seen (s : State) (u : UnitIx) (x : CvUnit) : (s.setCv u x).seen = s.seen := rfl

@[simp] theorem State.setPg_limits (s : State) (u : UnitIx) (x : PgSlot) : (s.setPg u x).limits = s.limits := rfl
@[simp] theorem State.setPg_regs (s : State) (u : UnitIx) (x : PgSlot) : (s.setPg u x).regs = s.regs := rfl
@[simp] theorem State.setPg_status (s : State) (u : UnitIx) (x : PgSlot) : (s.setPg u x).status = s.status := rfl
@[simp] theorem State.setPg_irqen (s : State) (u : UnitIx) (x : PgSlot) : (s.setPg u x).irqen = s.irqen := rfl
@[simp] theorem State.setPg_errcmd (s : State) (u : UnitIx) (x : PgSlot) : (s.setPg u x).errcmd = s.errcmd := rfl
@[simp] theorem State.setPg_sr (s : State) (u : UnitIx) (x : PgSlot) : (s.setPg u x).sr = s.sr := rfl
@[simp] theorem State.setPg_maxblk (s : State) (u : UnitIx) (x : PgSlot) : (s.setPg u x).maxblk = s.maxblk := rfl
@[simp] theorem State.setPg_prepared (s : State) (u : UnitIx) (x : PgSlot) : (s.setPg u x).prepared = s.prepared := rfl
@[simp] theorem State.setPg_bq (s : State) (u : UnitIx) (x : PgSlot) : (s.setPg u x).bq = s.bq := rfl
@[simp] theorem State.setPg_dl (s : State) (u : UnitIx) (x : PgSlot) : (s.setPg u x).dl = s.dl := rfl
@[simp] theorem State.setPg_dmem (s : State) (u : UnitIx) (x : PgSlot) : (s.setPg u x).dmem = s.dmem := rfl
@[simp] theorem State.setPg_env (s : State) (u : UnitIx) (x : PgSlot) : (s.setPg u x).env = s.env := rfl
@[simp] theorem State.setPg_lfo (s : State) (u : UnitIx) (x : PgSlot) : (s.setPg u x).lfo = s.lfo := rfl
@[simp] theorem State.setPg_cv (s : State) (u : UnitIx) (x : PgSlot) : (s.setPg u x).cv = s.cv := rfl
@[simp] theorem State.setPg_pg (s : State) (u : UnitIx) (x : PgSlot) : (s.setPg u x).pg = s.pg.set u.val x := rfl
@[simp] theorem State.setPg_pending (s : State) (u : UnitIx) (x : PgSlot) : (s.setPg u x).pending = s.pending := rfl
@[simp] theorem State.setPg_ci (s : State) (u : UnitIx) (x : PgSlot) : (s.setPg u x).ci = s.ci := rfl
@[simp] theorem State.setPg_seen (s : State) (u : UnitIx) (x : PgSlot) : (s.setPg u x).seen = s.seen := rfl

@[simp] theorem State.flag_limits (s : State) (w : Word) (f : FlagSet) : (s.flag w f).limits = s.limits := rfl
@[simp] theorem State.flag_regs (s : State) (w : Word) (f : FlagSet) : (s.flag w f).regs = s.regs := rfl
@[simp] theorem State.flag_status (s : State) (w : Word) (f : FlagSet) : (s.flag w f).status = s.status ||| f := rfl
@[simp] theorem State.flag_irqen (s : State) (w : Word) (f : FlagSet) : (s.flag w f).irqen = s.irqen := rfl
@[simp] theorem State.flag_errcmd (s : State) (w : Word) (f : FlagSet) :
    (s.flag w f).errcmd = if f = 0 then s.errcmd else w := rfl
@[simp] theorem State.flag_sr (s : State) (w : Word) (f : FlagSet) : (s.flag w f).sr = s.sr := rfl
@[simp] theorem State.flag_maxblk (s : State) (w : Word) (f : FlagSet) : (s.flag w f).maxblk = s.maxblk := rfl
@[simp] theorem State.flag_prepared (s : State) (w : Word) (f : FlagSet) : (s.flag w f).prepared = s.prepared := rfl
@[simp] theorem State.flag_bq (s : State) (w : Word) (f : FlagSet) : (s.flag w f).bq = s.bq := rfl
@[simp] theorem State.flag_dl (s : State) (w : Word) (f : FlagSet) : (s.flag w f).dl = s.dl := rfl
@[simp] theorem State.flag_dmem (s : State) (w : Word) (f : FlagSet) : (s.flag w f).dmem = s.dmem := rfl
@[simp] theorem State.flag_env (s : State) (w : Word) (f : FlagSet) : (s.flag w f).env = s.env := rfl
@[simp] theorem State.flag_lfo (s : State) (w : Word) (f : FlagSet) : (s.flag w f).lfo = s.lfo := rfl
@[simp] theorem State.flag_cv (s : State) (w : Word) (f : FlagSet) : (s.flag w f).cv = s.cv := rfl
@[simp] theorem State.flag_pg (s : State) (w : Word) (f : FlagSet) : (s.flag w f).pg = s.pg := rfl
@[simp] theorem State.flag_pending (s : State) (w : Word) (f : FlagSet) : (s.flag w f).pending = s.pending := rfl
@[simp] theorem State.flag_ci (s : State) (w : Word) (f : FlagSet) : (s.flag w f).ci = s.ci := rfl
@[simp] theorem State.flag_seen (s : State) (w : Word) (f : FlagSet) : (s.flag w f).seen = s.seen := rfl

@[simp] theorem State.raise_limits (s : State) (f : FlagSet) (w : Word) : (s.raise f w).limits = s.limits := rfl
@[simp] theorem State.raise_regs (s : State) (f : FlagSet) (w : Word) : (s.raise f w).regs = s.regs := rfl
@[simp] theorem State.raise_status (s : State) (f : FlagSet) (w : Word) : (s.raise f w).status = s.status ||| f := rfl
@[simp] theorem State.raise_irqen (s : State) (f : FlagSet) (w : Word) : (s.raise f w).irqen = s.irqen := rfl
@[simp] theorem State.raise_errcmd (s : State) (f : FlagSet) (w : Word) : (s.raise f w).errcmd = w := rfl
@[simp] theorem State.raise_sr (s : State) (f : FlagSet) (w : Word) : (s.raise f w).sr = s.sr := rfl
@[simp] theorem State.raise_maxblk (s : State) (f : FlagSet) (w : Word) : (s.raise f w).maxblk = s.maxblk := rfl
@[simp] theorem State.raise_prepared (s : State) (f : FlagSet) (w : Word) : (s.raise f w).prepared = s.prepared := rfl
@[simp] theorem State.raise_bq (s : State) (f : FlagSet) (w : Word) : (s.raise f w).bq = s.bq := rfl
@[simp] theorem State.raise_dl (s : State) (f : FlagSet) (w : Word) : (s.raise f w).dl = s.dl := rfl
@[simp] theorem State.raise_dmem (s : State) (f : FlagSet) (w : Word) : (s.raise f w).dmem = s.dmem := rfl
@[simp] theorem State.raise_env (s : State) (f : FlagSet) (w : Word) : (s.raise f w).env = s.env := rfl
@[simp] theorem State.raise_lfo (s : State) (f : FlagSet) (w : Word) : (s.raise f w).lfo = s.lfo := rfl
@[simp] theorem State.raise_cv (s : State) (f : FlagSet) (w : Word) : (s.raise f w).cv = s.cv := rfl
@[simp] theorem State.raise_pg (s : State) (f : FlagSet) (w : Word) : (s.raise f w).pg = s.pg := rfl
@[simp] theorem State.raise_pending (s : State) (f : FlagSet) (w : Word) : (s.raise f w).pending = s.pending := rfl
@[simp] theorem State.raise_ci (s : State) (f : FlagSet) (w : Word) : (s.raise f w).ci = s.ci := rfl
@[simp] theorem State.raise_seen (s : State) (f : FlagSet) (w : Word) : (s.raise f w).seen = s.seen := rfl

@[simp] theorem State.flagBus_limits (s : State) : s.flagBus.limits = s.limits := rfl
@[simp] theorem State.flagBus_regs (s : State) : s.flagBus.regs = s.regs := rfl
@[simp] theorem State.flagBus_status (s : State) : s.flagBus.status = s.status ||| flagBUS := rfl
@[simp] theorem State.flagBus_irqen (s : State) : s.flagBus.irqen = s.irqen := rfl
@[simp] theorem State.flagBus_errcmd (s : State) : s.flagBus.errcmd = s.errcmd := rfl
@[simp] theorem State.flagBus_sr (s : State) : s.flagBus.sr = s.sr := rfl
@[simp] theorem State.flagBus_maxblk (s : State) : s.flagBus.maxblk = s.maxblk := rfl
@[simp] theorem State.flagBus_prepared (s : State) : s.flagBus.prepared = s.prepared := rfl
@[simp] theorem State.flagBus_bq (s : State) : s.flagBus.bq = s.bq := rfl
@[simp] theorem State.flagBus_dl (s : State) : s.flagBus.dl = s.dl := rfl
@[simp] theorem State.flagBus_dmem (s : State) : s.flagBus.dmem = s.dmem := rfl
@[simp] theorem State.flagBus_env (s : State) : s.flagBus.env = s.env := rfl
@[simp] theorem State.flagBus_lfo (s : State) : s.flagBus.lfo = s.lfo := rfl
@[simp] theorem State.flagBus_cv (s : State) : s.flagBus.cv = s.cv := rfl
@[simp] theorem State.flagBus_pg (s : State) : s.flagBus.pg = s.pg := rfl
@[simp] theorem State.flagBus_pending (s : State) : s.flagBus.pending = s.pending := rfl
@[simp] theorem State.flagBus_ci (s : State) : s.flagBus.ci = s.ci := rfl
@[simp] theorem State.flagBus_seen (s : State) : s.flagBus.seen = s.seen := rfl

@[simp] theorem State.observe_limits (s : State) (d : Option Word) : (s.observe d).limits = s.limits := rfl
@[simp] theorem State.observe_regs (s : State) (d : Option Word) : (s.observe d).regs = s.regs := rfl
@[simp] theorem State.observe_status (s : State) (d : Option Word) : (s.observe d).status = s.status := rfl
@[simp] theorem State.observe_irqen (s : State) (d : Option Word) : (s.observe d).irqen = s.irqen := rfl
@[simp] theorem State.observe_errcmd (s : State) (d : Option Word) : (s.observe d).errcmd = s.errcmd := rfl
@[simp] theorem State.observe_sr (s : State) (d : Option Word) : (s.observe d).sr = s.sr := rfl
@[simp] theorem State.observe_maxblk (s : State) (d : Option Word) : (s.observe d).maxblk = s.maxblk := rfl
@[simp] theorem State.observe_prepared (s : State) (d : Option Word) : (s.observe d).prepared = s.prepared := rfl
@[simp] theorem State.observe_bq (s : State) (d : Option Word) : (s.observe d).bq = s.bq := rfl
@[simp] theorem State.observe_dl (s : State) (d : Option Word) : (s.observe d).dl = s.dl := rfl
@[simp] theorem State.observe_dmem (s : State) (d : Option Word) : (s.observe d).dmem = s.dmem := rfl
@[simp] theorem State.observe_env (s : State) (d : Option Word) : (s.observe d).env = s.env := rfl
@[simp] theorem State.observe_lfo (s : State) (d : Option Word) : (s.observe d).lfo = s.lfo := rfl
@[simp] theorem State.observe_cv (s : State) (d : Option Word) : (s.observe d).cv = s.cv := rfl
@[simp] theorem State.observe_pg (s : State) (d : Option Word) : (s.observe d).pg = s.pg := rfl
@[simp] theorem State.observe_pending (s : State) (d : Option Word) : (s.observe d).pending = s.pending := rfl
@[simp] theorem State.observe_ci (s : State) (d : Option Word) : (s.observe d).ci = s.ci := rfl
@[simp] theorem State.observe_seen (s : State) (d : Option Word) : (s.observe d).seen = ⟨d, s.irq⟩ :: s.seen := rfl

@[simp] theorem State.issue_limits (s : State) (w : Word) : (s.issue w).limits = s.limits := rfl
@[simp] theorem State.issue_regs (s : State) (w : Word) : (s.issue w).regs = s.regs := rfl
@[simp] theorem State.issue_status (s : State) (w : Word) : (s.issue w).status = s.status := rfl
@[simp] theorem State.issue_irqen (s : State) (w : Word) : (s.issue w).irqen = s.irqen := rfl
@[simp] theorem State.issue_errcmd (s : State) (w : Word) : (s.issue w).errcmd = s.errcmd := rfl
@[simp] theorem State.issue_sr (s : State) (w : Word) : (s.issue w).sr = s.sr := rfl
@[simp] theorem State.issue_maxblk (s : State) (w : Word) : (s.issue w).maxblk = s.maxblk := rfl
@[simp] theorem State.issue_prepared (s : State) (w : Word) : (s.issue w).prepared = s.prepared := rfl
@[simp] theorem State.issue_bq (s : State) (w : Word) : (s.issue w).bq = s.bq := rfl
@[simp] theorem State.issue_dl (s : State) (w : Word) : (s.issue w).dl = s.dl := rfl
@[simp] theorem State.issue_dmem (s : State) (w : Word) : (s.issue w).dmem = s.dmem := rfl
@[simp] theorem State.issue_env (s : State) (w : Word) : (s.issue w).env = s.env := rfl
@[simp] theorem State.issue_lfo (s : State) (w : Word) : (s.issue w).lfo = s.lfo := rfl
@[simp] theorem State.issue_cv (s : State) (w : Word) : (s.issue w).cv = s.cv := rfl
@[simp] theorem State.issue_pg (s : State) (w : Word) : (s.issue w).pg = s.pg := rfl
@[simp] theorem State.issue_pending (s : State) (w : Word) :
    (s.issue w).pending = .write .word 0x30 w :: s.pending := rfl
@[simp] theorem State.issue_ci (s : State) (w : Word) : (s.issue w).ci = s.ci := rfl
@[simp] theorem State.issue_seen (s : State) (w : Word) : (s.issue w).seen = s.seen := rfl

@[simp] theorem State.setRate_limits (s : State) (sr maxblk : Word) : (s.setRate sr maxblk).limits = s.limits := rfl
@[simp] theorem State.setRate_regs (s : State) (sr maxblk : Word) : (s.setRate sr maxblk).regs = s.regs := rfl
@[simp] theorem State.setRate_status (s : State) (sr maxblk : Word) : (s.setRate sr maxblk).status = s.status := rfl
@[simp] theorem State.setRate_irqen (s : State) (sr maxblk : Word) : (s.setRate sr maxblk).irqen = s.irqen := rfl
@[simp] theorem State.setRate_errcmd (s : State) (sr maxblk : Word) : (s.setRate sr maxblk).errcmd = s.errcmd := rfl
@[simp] theorem State.setRate_sr (s : State) (sr maxblk : Word) : (s.setRate sr maxblk).sr = sr := rfl
@[simp] theorem State.setRate_maxblk (s : State) (sr maxblk : Word) : (s.setRate sr maxblk).maxblk = maxblk := rfl
@[simp] theorem State.setRate_prepared (s : State) (sr maxblk : Word) : (s.setRate sr maxblk).prepared = true := rfl
@[simp] theorem State.setRate_bq (s : State) (sr maxblk : Word) : (s.setRate sr maxblk).bq = s.bq := rfl
@[simp] theorem State.setRate_dl (s : State) (sr maxblk : Word) : (s.setRate sr maxblk).dl = s.dl := rfl
@[simp] theorem State.setRate_dmem (s : State) (sr maxblk : Word) : (s.setRate sr maxblk).dmem = s.dmem := rfl
@[simp] theorem State.setRate_env (s : State) (sr maxblk : Word) : (s.setRate sr maxblk).env = s.env := rfl
@[simp] theorem State.setRate_lfo (s : State) (sr maxblk : Word) : (s.setRate sr maxblk).lfo = s.lfo := rfl
@[simp] theorem State.setRate_cv (s : State) (sr maxblk : Word) : (s.setRate sr maxblk).cv = s.cv := rfl
@[simp] theorem State.setRate_pg (s : State) (sr maxblk : Word) : (s.setRate sr maxblk).pg = s.pg := rfl
@[simp] theorem State.setRate_pending (s : State) (sr maxblk : Word) : (s.setRate sr maxblk).pending = s.pending := rfl
@[simp] theorem State.setRate_ci (s : State) (sr maxblk : Word) : (s.setRate sr maxblk).ci = s.ci := rfl
@[simp] theorem State.setRate_seen (s : State) (sr maxblk : Word) : (s.setRate sr maxblk).seen = s.seen := rfl

@[simp] theorem State.recomputeAll_limits (s : State) : s.recomputeAll.1.limits = s.limits := rfl
@[simp] theorem State.recomputeAll_regs (s : State) : s.recomputeAll.1.regs = s.regs := rfl
@[simp] theorem State.recomputeAll_status (s : State) : s.recomputeAll.1.status = s.status := rfl
@[simp] theorem State.recomputeAll_irqen (s : State) : s.recomputeAll.1.irqen = s.irqen := rfl
@[simp] theorem State.recomputeAll_errcmd (s : State) : s.recomputeAll.1.errcmd = s.errcmd := rfl
@[simp] theorem State.recomputeAll_sr (s : State) : s.recomputeAll.1.sr = s.sr := rfl
@[simp] theorem State.recomputeAll_maxblk (s : State) : s.recomputeAll.1.maxblk = s.maxblk := rfl
@[simp] theorem State.recomputeAll_prepared (s : State) : s.recomputeAll.1.prepared = s.prepared := rfl
@[simp] theorem State.recomputeAll_bq (s : State) : s.recomputeAll.1.bq = (mapFlags (recomputeBq s.sr) s.bq).1 := rfl
@[simp] theorem State.recomputeAll_dl (s : State) : s.recomputeAll.1.dl = s.dl := rfl
@[simp] theorem State.recomputeAll_dmem (s : State) : s.recomputeAll.1.dmem = s.dmem := rfl
@[simp] theorem State.recomputeAll_env (s : State) : s.recomputeAll.1.env = (mapFlags (recomputeEnv s.limits.rmsWinMax s.sr) s.env).1 := rfl
@[simp] theorem State.recomputeAll_lfo (s : State) : s.recomputeAll.1.lfo = (mapFlags (recomputeLfo s.sr) s.lfo).1 := rfl
@[simp] theorem State.recomputeAll_cv (s : State) : s.recomputeAll.1.cv = s.cv := rfl
@[simp] theorem State.recomputeAll_pg (s : State) : s.recomputeAll.1.pg = s.pg := rfl
@[simp] theorem State.recomputeAll_pending (s : State) : s.recomputeAll.1.pending = s.pending := rfl
@[simp] theorem State.recomputeAll_ci (s : State) : s.recomputeAll.1.ci = s.ci := rfl
@[simp] theorem State.recomputeAll_seen (s : State) : s.recomputeAll.1.seen = s.seen := rfl

@[simp] theorem State.resetDynamic_limits (s : State) : s.resetDynamic.limits = s.limits := rfl
@[simp] theorem State.resetDynamic_regs (s : State) : s.resetDynamic.regs = s.regs := rfl
@[simp] theorem State.resetDynamic_status (s : State) : s.resetDynamic.status = s.status := rfl
@[simp] theorem State.resetDynamic_irqen (s : State) : s.resetDynamic.irqen = s.irqen := rfl
@[simp] theorem State.resetDynamic_errcmd (s : State) : s.resetDynamic.errcmd = s.errcmd := rfl
@[simp] theorem State.resetDynamic_sr (s : State) : s.resetDynamic.sr = s.sr := rfl
@[simp] theorem State.resetDynamic_maxblk (s : State) : s.resetDynamic.maxblk = s.maxblk := rfl
@[simp] theorem State.resetDynamic_prepared (s : State) : s.resetDynamic.prepared = s.prepared := rfl
@[simp] theorem State.resetDynamic_bq (s : State) : s.resetDynamic.bq = s.bq.map BqUnit.clear := rfl
@[simp] theorem State.resetDynamic_dl (s : State) : s.resetDynamic.dl = s.dl.map DlUnit.clear := rfl
@[simp] theorem State.resetDynamic_dmem (s : State) : s.resetDynamic.dmem = [] := rfl
@[simp] theorem State.resetDynamic_env (s : State) : s.resetDynamic.env = s.env.map EnvUnit.clear := rfl
@[simp] theorem State.resetDynamic_lfo (s : State) : s.resetDynamic.lfo = s.lfo.map LfoUnit.restart := rfl
@[simp] theorem State.resetDynamic_cv (s : State) : s.resetDynamic.cv = s.cv.map CvUnit.clearStream := rfl
@[simp] theorem State.resetDynamic_pg (s : State) : s.resetDynamic.pg = s.pg.map PgSlot.clear := rfl
@[simp] theorem State.resetDynamic_pending (s : State) : s.resetDynamic.pending = s.pending := rfl
@[simp] theorem State.resetDynamic_ci (s : State) : s.resetDynamic.ci = s.ci := rfl
@[simp] theorem State.resetDynamic_seen (s : State) : s.resetDynamic.seen = s.seen := rfl

@[simp] theorem State.hardwareReset_limits (s : State) : s.hardwareReset.limits = (State.resetOf s.params).limits := rfl
@[simp] theorem State.hardwareReset_regs (s : State) : s.hardwareReset.regs = (State.resetOf s.params).regs := rfl
@[simp] theorem State.hardwareReset_status (s : State) : s.hardwareReset.status = (State.resetOf s.params).status := rfl
@[simp] theorem State.hardwareReset_irqen (s : State) : s.hardwareReset.irqen = (State.resetOf s.params).irqen := rfl
@[simp] theorem State.hardwareReset_errcmd (s : State) : s.hardwareReset.errcmd = (State.resetOf s.params).errcmd := rfl
@[simp] theorem State.hardwareReset_sr (s : State) : s.hardwareReset.sr = (State.resetOf s.params).sr := rfl
@[simp] theorem State.hardwareReset_maxblk (s : State) : s.hardwareReset.maxblk = (State.resetOf s.params).maxblk := rfl
@[simp] theorem State.hardwareReset_prepared (s : State) :
    s.hardwareReset.prepared = (State.resetOf s.params).prepared := rfl
@[simp] theorem State.hardwareReset_bq (s : State) : s.hardwareReset.bq = (State.resetOf s.params).bq := rfl
@[simp] theorem State.hardwareReset_dl (s : State) : s.hardwareReset.dl = (State.resetOf s.params).dl := rfl
@[simp] theorem State.hardwareReset_dmem (s : State) : s.hardwareReset.dmem = (State.resetOf s.params).dmem := rfl
@[simp] theorem State.hardwareReset_env (s : State) : s.hardwareReset.env = (State.resetOf s.params).env := rfl
@[simp] theorem State.hardwareReset_lfo (s : State) : s.hardwareReset.lfo = (State.resetOf s.params).lfo := rfl
@[simp] theorem State.hardwareReset_cv (s : State) : s.hardwareReset.cv = (State.resetOf s.params).cv := rfl
@[simp] theorem State.hardwareReset_pg (s : State) : s.hardwareReset.pg = (State.resetOf s.params).pg := rfl
@[simp] theorem State.hardwareReset_pending (s : State) : s.hardwareReset.pending = s.pending := rfl
@[simp] theorem State.hardwareReset_ci (s : State) : s.hardwareReset.ci = s.ci := rfl
@[simp] theorem State.hardwareReset_seen (s : State) : s.hardwareReset.seen = s.seen := rfl

@[simp] theorem State.putSample_limits (s : State) (w : Word) (rd : Reg) (v : Word) (f : FlagSet) :
    (s.putSample w rd v f).limits = s.limits := rfl
@[simp] theorem State.putSample_regs (s : State) (w : Word) (rd : Reg) (v : Word) (f : FlagSet) :
    (s.putSample w rd v f).regs = s.regs.set rd.val (sanitize v).1 rd.isLt := rfl
@[simp] theorem State.putSample_status (s : State) (w : Word) (rd : Reg) (v : Word) (f : FlagSet) :
    (s.putSample w rd v f).status = s.status ||| (f ||| (sanitize v).2) := rfl
@[simp] theorem State.putSample_irqen (s : State) (w : Word) (rd : Reg) (v : Word) (f : FlagSet) :
    (s.putSample w rd v f).irqen = s.irqen := rfl
@[simp] theorem State.putSample_errcmd (s : State) (w : Word) (rd : Reg) (v : Word) (f : FlagSet) :
    (s.putSample w rd v f).errcmd = if f ||| (sanitize v).2 = 0 then s.errcmd else w := rfl
@[simp] theorem State.putSample_sr (s : State) (w : Word) (rd : Reg) (v : Word) (f : FlagSet) :
    (s.putSample w rd v f).sr = s.sr := rfl
@[simp] theorem State.putSample_maxblk (s : State) (w : Word) (rd : Reg) (v : Word) (f : FlagSet) :
    (s.putSample w rd v f).maxblk = s.maxblk := rfl
@[simp] theorem State.putSample_prepared (s : State) (w : Word) (rd : Reg) (v : Word) (f : FlagSet) :
    (s.putSample w rd v f).prepared = s.prepared := rfl
@[simp] theorem State.putSample_bq (s : State) (w : Word) (rd : Reg) (v : Word) (f : FlagSet) :
    (s.putSample w rd v f).bq = s.bq := rfl
@[simp] theorem State.putSample_dl (s : State) (w : Word) (rd : Reg) (v : Word) (f : FlagSet) :
    (s.putSample w rd v f).dl = s.dl := rfl
@[simp] theorem State.putSample_dmem (s : State) (w : Word) (rd : Reg) (v : Word) (f : FlagSet) :
    (s.putSample w rd v f).dmem = s.dmem := rfl
@[simp] theorem State.putSample_env (s : State) (w : Word) (rd : Reg) (v : Word) (f : FlagSet) :
    (s.putSample w rd v f).env = s.env := rfl
@[simp] theorem State.putSample_lfo (s : State) (w : Word) (rd : Reg) (v : Word) (f : FlagSet) :
    (s.putSample w rd v f).lfo = s.lfo := rfl
@[simp] theorem State.putSample_cv (s : State) (w : Word) (rd : Reg) (v : Word) (f : FlagSet) :
    (s.putSample w rd v f).cv = s.cv := rfl
@[simp] theorem State.putSample_pg (s : State) (w : Word) (rd : Reg) (v : Word) (f : FlagSet) :
    (s.putSample w rd v f).pg = s.pg := rfl
@[simp] theorem State.putSample_pending (s : State) (w : Word) (rd : Reg) (v : Word) (f : FlagSet) :
    (s.putSample w rd v f).pending = s.pending := rfl
@[simp] theorem State.putSample_ci (s : State) (w : Word) (rd : Reg) (v : Word) (f : FlagSet) :
    (s.putSample w rd v f).ci = s.ci := rfl
@[simp] theorem State.putSample_seen (s : State) (w : Word) (rd : Reg) (v : Word) (f : FlagSet) :
    (s.putSample w rd v f).seen = s.seen := rfl

/-! No update changes the parameters (R54). -/

@[simp] theorem State.resetOf_params (p : Params) : (State.resetOf p).params = p := by simp [State.resetOf, State.params]
@[simp] theorem State.setReg_params (s : State) (r : Reg) (v : Word) : (s.setReg r v).params = s.params := rfl
@[simp] theorem State.setBq_params (s : State) (u : UnitIx) (x : BqUnit) : (s.setBq u x).params = s.params := by
  simp [State.params]
@[simp] theorem State.setDl_params (s : State) (u : UnitIx) (x : DlUnit) : (s.setDl u x).params = s.params := by
  simp [State.params]
@[simp] theorem State.setDmem_params (s : State) (m : Mem) : (s.setDmem m).params = s.params := rfl
@[simp] theorem State.setEnv_params (s : State) (u : UnitIx) (x : EnvUnit) : (s.setEnv u x).params = s.params := by
  simp [State.params]
@[simp] theorem State.setLfo_params (s : State) (u : UnitIx) (x : LfoUnit) : (s.setLfo u x).params = s.params := by
  simp [State.params]
@[simp] theorem State.setCv_params (s : State) (u : UnitIx) (x : CvUnit) : (s.setCv u x).params = s.params := by
  simp [State.params]
@[simp] theorem State.setPg_params (s : State) (u : UnitIx) (x : PgSlot) : (s.setPg u x).params = s.params := by
  simp [State.params]
@[simp] theorem State.flag_params (s : State) (w : Word) (f : FlagSet) : (s.flag w f).params = s.params := rfl
@[simp] theorem State.raise_params (s : State) (f : FlagSet) (w : Word) : (s.raise f w).params = s.params := rfl
@[simp] theorem State.flagBus_params (s : State) : s.flagBus.params = s.params := rfl
@[simp] theorem State.observe_params (s : State) (d : Option Word) : (s.observe d).params = s.params := rfl
@[simp] theorem State.issue_params (s : State) (w : Word) : (s.issue w).params = s.params := rfl
@[simp] theorem State.setRate_params (s : State) (sr maxblk : Word) : (s.setRate sr maxblk).params = s.params := rfl
@[simp] theorem State.recomputeAll_params (s : State) : s.recomputeAll.1.params = s.params := by
  simp [State.params, mapFlags]
@[simp] theorem State.resetDynamic_params (s : State) : s.resetDynamic.params = s.params := by
  simp [State.params]
@[simp] theorem State.hardwareReset_params (s : State) : s.hardwareReset.params = s.params := 
  State.resetOf_params _
@[simp] theorem State.putSample_params (s : State) (w : Word) (rd : Reg) (v : Word) (f : FlagSet) : (s.putSample w rd v f).params = s.params := rfl

end Sys2Proof.Machine
end

