-- ==== Sys2Proof/Laws/Access.lean ====
section
/-! SUPPORT. Reads after writes of the data registers and of the unit banks. -/

namespace Sys2Proof.Machine

theorem getD_set {α : Type} (v : List α) (u w : Nat) (x d : α) (h : u < v.length) :
    (v.set u x).getD w d = if w = u then x else v.getD w d := by
  simp only [List.getD_eq_getElem?_getD, List.getElem?_set]
  split
  · rename_i e
    subst e
    simp
  · rename_i e
    rw [if_neg (Ne.symm e)]

theorem getD_set_ne {α : Type} (v : List α) (u w : Nat) (x d : α) (h : w ≠ u) :
    (v.set u x).getD w d = v.getD w d := by
  simp only [List.getD_eq_getElem?_getD, List.getElem?_set, if_neg (Ne.symm h)]

theorem getD_mem {α : Type} (v : List α) (u : Nat) (d : α) (h : u < v.length) : v.getD u d ∈ v := by
  rw [List.getD_eq_getElem _ _ h]
  exact List.getElem_mem h

theorem getD_map {α : Type} (f : α → α) (v : List α) (u : Nat) (d : α) (h : u < v.length) :
    (v.map f).getD u d = f (v.getD u d) := by
  rw [List.getD_eq_getElem _ _ h, List.getD_eq_getElem _ _ (by simpa using h), List.getElem_map]

theorem forall_set {α : Type} {v : List α} {u : Nat} {x : α} {p : α → Prop} (hv : ∀ a ∈ v, p a) (hx : p x) :
    ∀ a ∈ v.set u x, p a := fun a ha =>
  (List.mem_or_eq_of_mem_set ha).elim (hv a) fun e => e ▸ hx

@[simp] theorem State.reg_setReg (s : State) (r q : Reg) (v : Word) :
    (s.setReg r v).reg q = if q = r then v else s.reg q := by
  unfold State.reg State.setReg
  simp only [Vector.get_eq_getElem, Vector.getElem_set, Fin.ext_iff, eq_comm]

@[simp] theorem State.reg_putSample (s : State) (w : Word) (rd q : Reg) (v : Word) (f : FlagSet) :
    (s.putSample w rd v f).reg q = if q = rd then (sanitize v).1 else s.reg q := by
  show (s.setReg rd (sanitize v).1).reg q = _
  simp

@[simp] theorem State.reg_setBq (s : State) (u : UnitIx) (x : BqUnit) (q : Reg) : (s.setBq u x).reg q = s.reg q := rfl
@[simp] theorem State.reg_setDl (s : State) (u : UnitIx) (x : DlUnit) (q : Reg) : (s.setDl u x).reg q = s.reg q := rfl
@[simp] theorem State.reg_setDmem (s : State) (m : Mem) (q : Reg) : (s.setDmem m).reg q = s.reg q := rfl
@[simp] theorem State.reg_setEnv (s : State) (u : UnitIx) (x : EnvUnit) (q : Reg) : (s.setEnv u x).reg q = s.reg q := rfl
@[simp] theorem State.reg_setLfo (s : State) (u : UnitIx) (x : LfoUnit) (q : Reg) : (s.setLfo u x).reg q = s.reg q := rfl
@[simp] theorem State.reg_setCv (s : State) (u : UnitIx) (x : CvUnit) (q : Reg) : (s.setCv u x).reg q = s.reg q := rfl
@[simp] theorem State.reg_setPg (s : State) (u : UnitIx) (x : PgSlot) (q : Reg) : (s.setPg u x).reg q = s.reg q := rfl
@[simp] theorem State.reg_flag (s : State) (w : Word) (f : FlagSet) (q : Reg) : (s.flag w f).reg q = s.reg q := rfl
@[simp] theorem State.reg_raise (s : State) (f : FlagSet) (w : Word) (q : Reg) : (s.raise f w).reg q = s.reg q := rfl
@[simp] theorem State.reg_flagBus (s : State) (q : Reg) : s.flagBus.reg q = s.reg q := rfl
@[simp] theorem State.reg_observe (s : State) (d : Option Word) (q : Reg) : (s.observe d).reg q = s.reg q := rfl
@[simp] theorem State.reg_setRate (s : State) (sr maxblk : Word) (q : Reg) : (s.setRate sr maxblk).reg q = s.reg q := rfl

@[simp] theorem State.bqAt_setBq (s : State) (u v : UnitIx) (x : BqUnit) (h : u.val < s.bq.length) :
    (s.setBq u x).bqAt v = if v = u then x else s.bqAt v := by
  simp only [State.bqAt, State.setBq, getD_set _ _ _ _ _ h, Fin.ext_iff]

theorem State.bqAt_setBq_ne (s : State) (u v : UnitIx) (x : BqUnit) (h : v ≠ u) :
    (s.setBq u x).bqAt v = s.bqAt v :=
  getD_set_ne _ _ _ _ _ (fun e => h (Fin.ext e))

@[simp] theorem State.bqAt_setReg (s : State) (r : Reg) (v : Word) (q : UnitIx) :
    (s.setReg r v).bqAt q = s.bqAt q := rfl
@[simp] theorem State.bqAt_setDl (s : State) (u : UnitIx) (x : DlUnit) (q : UnitIx) :
    (s.setDl u x).bqAt q = s.bqAt q := rfl
@[simp] theorem State.bqAt_setDmem (s : State) (m : Mem) (q : UnitIx) : (s.setDmem m).bqAt q = s.bqAt q := rfl
@[simp] theorem State.bqAt_setEnv (s : State) (u : UnitIx) (x : EnvUnit) (q : UnitIx) :
    (s.setEnv u x).bqAt q = s.bqAt q := rfl
@[simp] theorem State.bqAt_setLfo (s : State) (u : UnitIx) (x : LfoUnit) (q : UnitIx) :
    (s.setLfo u x).bqAt q = s.bqAt q := rfl
@[simp] theorem State.bqAt_setCv (s : State) (u : UnitIx) (x : CvUnit) (q : UnitIx) :
    (s.setCv u x).bqAt q = s.bqAt q := rfl
@[simp] theorem State.bqAt_setPg (s : State) (u : UnitIx) (x : PgSlot) (q : UnitIx) :
    (s.setPg u x).bqAt q = s.bqAt q := rfl
@[simp] theorem State.bqAt_flag (s : State) (w : Word) (f : FlagSet) (q : UnitIx) :
    (s.flag w f).bqAt q = s.bqAt q := rfl
@[simp] theorem State.bqAt_raise (s : State) (f : FlagSet) (w : Word) (q : UnitIx) :
    (s.raise f w).bqAt q = s.bqAt q := rfl
@[simp] theorem State.bqAt_flagBus (s : State) (q : UnitIx) : s.flagBus.bqAt q = s.bqAt q := rfl
@[simp] theorem State.bqAt_observe (s : State) (d : Option Word) (q : UnitIx) : (s.observe d).bqAt q = s.bqAt q := rfl
@[simp] theorem State.bqAt_setRate (s : State) (sr maxblk : Word) (q : UnitIx) :
    (s.setRate sr maxblk).bqAt q = s.bqAt q := rfl
@[simp] theorem State.bqAt_putSample (s : State) (w : Word) (rd : Reg) (v : Word) (f : FlagSet) (q : UnitIx) :
    (s.putSample w rd v f).bqAt q = s.bqAt q := rfl

@[simp] theorem State.dlAt_setDl (s : State) (u v : UnitIx) (x : DlUnit) (h : u.val < s.dl.length) :
    (s.setDl u x).dlAt v = if v = u then x else s.dlAt v := by
  simp only [State.dlAt, State.setDl, getD_set _ _ _ _ _ h, Fin.ext_iff]

theorem State.dlAt_setDl_ne (s : State) (u v : UnitIx) (x : DlUnit) (h : v ≠ u) :
    (s.setDl u x).dlAt v = s.dlAt v :=
  getD_set_ne _ _ _ _ _ (fun e => h (Fin.ext e))

@[simp] theorem State.dlAt_setReg (s : State) (r : Reg) (v : Word) (q : UnitIx) :
    (s.setReg r v).dlAt q = s.dlAt q := rfl
@[simp] theorem State.dlAt_setBq (s : State) (u : UnitIx) (x : BqUnit) (q : UnitIx) :
    (s.setBq u x).dlAt q = s.dlAt q := rfl
@[simp] theorem State.dlAt_setDmem (s : State) (m : Mem) (q : UnitIx) : (s.setDmem m).dlAt q = s.dlAt q := rfl
@[simp] theorem State.dlAt_setEnv (s : State) (u : UnitIx) (x : EnvUnit) (q : UnitIx) :
    (s.setEnv u x).dlAt q = s.dlAt q := rfl
@[simp] theorem State.dlAt_setLfo (s : State) (u : UnitIx) (x : LfoUnit) (q : UnitIx) :
    (s.setLfo u x).dlAt q = s.dlAt q := rfl
@[simp] theorem State.dlAt_setCv (s : State) (u : UnitIx) (x : CvUnit) (q : UnitIx) :
    (s.setCv u x).dlAt q = s.dlAt q := rfl
@[simp] theorem State.dlAt_setPg (s : State) (u : UnitIx) (x : PgSlot) (q : UnitIx) :
    (s.setPg u x).dlAt q = s.dlAt q := rfl
@[simp] theorem State.dlAt_flag (s : State) (w : Word) (f : FlagSet) (q : UnitIx) :
    (s.flag w f).dlAt q = s.dlAt q := rfl
@[simp] theorem State.dlAt_raise (s : State) (f : FlagSet) (w : Word) (q : UnitIx) :
    (s.raise f w).dlAt q = s.dlAt q := rfl
@[simp] theorem State.dlAt_flagBus (s : State) (q : UnitIx) : s.flagBus.dlAt q = s.dlAt q := rfl
@[simp] theorem State.dlAt_observe (s : State) (d : Option Word) (q : UnitIx) : (s.observe d).dlAt q = s.dlAt q := rfl
@[simp] theorem State.dlAt_setRate (s : State) (sr maxblk : Word) (q : UnitIx) :
    (s.setRate sr maxblk).dlAt q = s.dlAt q := rfl
@[simp] theorem State.dlAt_putSample (s : State) (w : Word) (rd : Reg) (v : Word) (f : FlagSet) (q : UnitIx) :
    (s.putSample w rd v f).dlAt q = s.dlAt q := rfl

@[simp] theorem State.envAt_setEnv (s : State) (u v : UnitIx) (x : EnvUnit) (h : u.val < s.env.length) :
    (s.setEnv u x).envAt v = if v = u then x else s.envAt v := by
  simp only [State.envAt, State.setEnv, getD_set _ _ _ _ _ h, Fin.ext_iff]

theorem State.envAt_setEnv_ne (s : State) (u v : UnitIx) (x : EnvUnit) (h : v ≠ u) :
    (s.setEnv u x).envAt v = s.envAt v :=
  getD_set_ne _ _ _ _ _ (fun e => h (Fin.ext e))

@[simp] theorem State.envAt_setReg (s : State) (r : Reg) (v : Word) (q : UnitIx) :
    (s.setReg r v).envAt q = s.envAt q := rfl
@[simp] theorem State.envAt_setBq (s : State) (u : UnitIx) (x : BqUnit) (q : UnitIx) :
    (s.setBq u x).envAt q = s.envAt q := rfl
@[simp] theorem State.envAt_setDl (s : State) (u : UnitIx) (x : DlUnit) (q : UnitIx) :
    (s.setDl u x).envAt q = s.envAt q := rfl
@[simp] theorem State.envAt_setDmem (s : State) (m : Mem) (q : UnitIx) : (s.setDmem m).envAt q = s.envAt q := rfl
@[simp] theorem State.envAt_setLfo (s : State) (u : UnitIx) (x : LfoUnit) (q : UnitIx) :
    (s.setLfo u x).envAt q = s.envAt q := rfl
@[simp] theorem State.envAt_setCv (s : State) (u : UnitIx) (x : CvUnit) (q : UnitIx) :
    (s.setCv u x).envAt q = s.envAt q := rfl
@[simp] theorem State.envAt_setPg (s : State) (u : UnitIx) (x : PgSlot) (q : UnitIx) :
    (s.setPg u x).envAt q = s.envAt q := rfl
@[simp] theorem State.envAt_flag (s : State) (w : Word) (f : FlagSet) (q : UnitIx) :
    (s.flag w f).envAt q = s.envAt q := rfl
@[simp] theorem State.envAt_raise (s : State) (f : FlagSet) (w : Word) (q : UnitIx) :
    (s.raise f w).envAt q = s.envAt q := rfl
@[simp] theorem State.envAt_flagBus (s : State) (q : UnitIx) : s.flagBus.envAt q = s.envAt q := rfl
@[simp] theorem State.envAt_observe (s : State) (d : Option Word) (q : UnitIx) :
    (s.observe d).envAt q = s.envAt q := rfl
@[simp] theorem State.envAt_setRate (s : State) (sr maxblk : Word) (q : UnitIx) :
    (s.setRate sr maxblk).envAt q = s.envAt q := rfl
@[simp] theorem State.envAt_putSample (s : State) (w : Word) (rd : Reg) (v : Word) (f : FlagSet) (q : UnitIx) :
    (s.putSample w rd v f).envAt q = s.envAt q := rfl

@[simp] theorem State.lfoAt_setLfo (s : State) (u v : UnitIx) (x : LfoUnit) (h : u.val < s.lfo.length) :
    (s.setLfo u x).lfoAt v = if v = u then x else s.lfoAt v := by
  simp only [State.lfoAt, State.setLfo, getD_set _ _ _ _ _ h, Fin.ext_iff]

theorem State.lfoAt_setLfo_ne (s : State) (u v : UnitIx) (x : LfoUnit) (h : v ≠ u) :
    (s.setLfo u x).lfoAt v = s.lfoAt v :=
  getD_set_ne _ _ _ _ _ (fun e => h (Fin.ext e))

@[simp] theorem State.lfoAt_setReg (s : State) (r : Reg) (v : Word) (q : UnitIx) :
    (s.setReg r v).lfoAt q = s.lfoAt q := rfl
@[simp] theorem State.lfoAt_setBq (s : State) (u : UnitIx) (x : BqUnit) (q : UnitIx) :
    (s.setBq u x).lfoAt q = s.lfoAt q := rfl
@[simp] theorem State.lfoAt_setDl (s : State) (u : UnitIx) (x : DlUnit) (q : UnitIx) :
    (s.setDl u x).lfoAt q = s.lfoAt q := rfl
@[simp] theorem State.lfoAt_setDmem (s : State) (m : Mem) (q : UnitIx) : (s.setDmem m).lfoAt q = s.lfoAt q := rfl
@[simp] theorem State.lfoAt_setEnv (s : State) (u : UnitIx) (x : EnvUnit) (q : UnitIx) :
    (s.setEnv u x).lfoAt q = s.lfoAt q := rfl
@[simp] theorem State.lfoAt_setCv (s : State) (u : UnitIx) (x : CvUnit) (q : UnitIx) :
    (s.setCv u x).lfoAt q = s.lfoAt q := rfl
@[simp] theorem State.lfoAt_setPg (s : State) (u : UnitIx) (x : PgSlot) (q : UnitIx) :
    (s.setPg u x).lfoAt q = s.lfoAt q := rfl
@[simp] theorem State.lfoAt_flag (s : State) (w : Word) (f : FlagSet) (q : UnitIx) :
    (s.flag w f).lfoAt q = s.lfoAt q := rfl
@[simp] theorem State.lfoAt_raise (s : State) (f : FlagSet) (w : Word) (q : UnitIx) :
    (s.raise f w).lfoAt q = s.lfoAt q := rfl
@[simp] theorem State.lfoAt_flagBus (s : State) (q : UnitIx) : s.flagBus.lfoAt q = s.lfoAt q := rfl
@[simp] theorem State.lfoAt_observe (s : State) (d : Option Word) (q : UnitIx) :
    (s.observe d).lfoAt q = s.lfoAt q := rfl
@[simp] theorem State.lfoAt_setRate (s : State) (sr maxblk : Word) (q : UnitIx) :
    (s.setRate sr maxblk).lfoAt q = s.lfoAt q := rfl
@[simp] theorem State.lfoAt_putSample (s : State) (w : Word) (rd : Reg) (v : Word) (f : FlagSet) (q : UnitIx) :
    (s.putSample w rd v f).lfoAt q = s.lfoAt q := rfl

@[simp] theorem State.cvAt_setCv (s : State) (u v : UnitIx) (x : CvUnit) (h : u.val < s.cv.length) :
    (s.setCv u x).cvAt v = if v = u then x else s.cvAt v := by
  simp only [State.cvAt, State.setCv, getD_set _ _ _ _ _ h, Fin.ext_iff]

theorem State.cvAt_setCv_ne (s : State) (u v : UnitIx) (x : CvUnit) (h : v ≠ u) :
    (s.setCv u x).cvAt v = s.cvAt v :=
  getD_set_ne _ _ _ _ _ (fun e => h (Fin.ext e))

@[simp] theorem State.cvAt_setReg (s : State) (r : Reg) (v : Word) (q : UnitIx) :
    (s.setReg r v).cvAt q = s.cvAt q := rfl
@[simp] theorem State.cvAt_setBq (s : State) (u : UnitIx) (x : BqUnit) (q : UnitIx) :
    (s.setBq u x).cvAt q = s.cvAt q := rfl
@[simp] theorem State.cvAt_setDl (s : State) (u : UnitIx) (x : DlUnit) (q : UnitIx) :
    (s.setDl u x).cvAt q = s.cvAt q := rfl
@[simp] theorem State.cvAt_setDmem (s : State) (m : Mem) (q : UnitIx) : (s.setDmem m).cvAt q = s.cvAt q := rfl
@[simp] theorem State.cvAt_setEnv (s : State) (u : UnitIx) (x : EnvUnit) (q : UnitIx) :
    (s.setEnv u x).cvAt q = s.cvAt q := rfl
@[simp] theorem State.cvAt_setLfo (s : State) (u : UnitIx) (x : LfoUnit) (q : UnitIx) :
    (s.setLfo u x).cvAt q = s.cvAt q := rfl
@[simp] theorem State.cvAt_setPg (s : State) (u : UnitIx) (x : PgSlot) (q : UnitIx) :
    (s.setPg u x).cvAt q = s.cvAt q := rfl
@[simp] theorem State.cvAt_flag (s : State) (w : Word) (f : FlagSet) (q : UnitIx) :
    (s.flag w f).cvAt q = s.cvAt q := rfl
@[simp] theorem State.cvAt_raise (s : State) (f : FlagSet) (w : Word) (q : UnitIx) :
    (s.raise f w).cvAt q = s.cvAt q := rfl
@[simp] theorem State.cvAt_flagBus (s : State) (q : UnitIx) : s.flagBus.cvAt q = s.cvAt q := rfl
@[simp] theorem State.cvAt_observe (s : State) (d : Option Word) (q : UnitIx) : (s.observe d).cvAt q = s.cvAt q := rfl
@[simp] theorem State.cvAt_setRate (s : State) (sr maxblk : Word) (q : UnitIx) :
    (s.setRate sr maxblk).cvAt q = s.cvAt q := rfl
@[simp] theorem State.cvAt_putSample (s : State) (w : Word) (rd : Reg) (v : Word) (f : FlagSet) (q : UnitIx) :
    (s.putSample w rd v f).cvAt q = s.cvAt q := rfl

@[simp] theorem State.pgAt_setPg (s : State) (u v : UnitIx) (x : PgSlot) (h : u.val < s.pg.length) :
    (s.setPg u x).pgAt v = if v = u then x else s.pgAt v := by
  simp only [State.pgAt, State.setPg, getD_set _ _ _ _ _ h, Fin.ext_iff]

theorem State.pgAt_setPg_ne (s : State) (u v : UnitIx) (x : PgSlot) (h : v ≠ u) :
    (s.setPg u x).pgAt v = s.pgAt v :=
  getD_set_ne _ _ _ _ _ (fun e => h (Fin.ext e))

@[simp] theorem State.pgAt_setReg (s : State) (r : Reg) (v : Word) (q : UnitIx) :
    (s.setReg r v).pgAt q = s.pgAt q := rfl
@[simp] theorem State.pgAt_setBq (s : State) (u : UnitIx) (x : BqUnit) (q : UnitIx) :
    (s.setBq u x).pgAt q = s.pgAt q := rfl
@[simp] theorem State.pgAt_setDl (s : State) (u : UnitIx) (x : DlUnit) (q : UnitIx) :
    (s.setDl u x).pgAt q = s.pgAt q := rfl
@[simp] theorem State.pgAt_setDmem (s : State) (m : Mem) (q : UnitIx) : (s.setDmem m).pgAt q = s.pgAt q := rfl
@[simp] theorem State.pgAt_setEnv (s : State) (u : UnitIx) (x : EnvUnit) (q : UnitIx) :
    (s.setEnv u x).pgAt q = s.pgAt q := rfl
@[simp] theorem State.pgAt_setLfo (s : State) (u : UnitIx) (x : LfoUnit) (q : UnitIx) :
    (s.setLfo u x).pgAt q = s.pgAt q := rfl
@[simp] theorem State.pgAt_setCv (s : State) (u : UnitIx) (x : CvUnit) (q : UnitIx) :
    (s.setCv u x).pgAt q = s.pgAt q := rfl
@[simp] theorem State.pgAt_flag (s : State) (w : Word) (f : FlagSet) (q : UnitIx) :
    (s.flag w f).pgAt q = s.pgAt q := rfl
@[simp] theorem State.pgAt_raise (s : State) (f : FlagSet) (w : Word) (q : UnitIx) :
    (s.raise f w).pgAt q = s.pgAt q := rfl
@[simp] theorem State.pgAt_flagBus (s : State) (q : UnitIx) : s.flagBus.pgAt q = s.pgAt q := rfl
@[simp] theorem State.pgAt_observe (s : State) (d : Option Word) (q : UnitIx) : (s.observe d).pgAt q = s.pgAt q := rfl
@[simp] theorem State.pgAt_setRate (s : State) (sr maxblk : Word) (q : UnitIx) :
    (s.setRate sr maxblk).pgAt q = s.pgAt q := rfl
@[simp] theorem State.pgAt_putSample (s : State) (w : Word) (rd : Reg) (v : Word) (f : FlagSet) (q : UnitIx) :
    (s.putSample w rd v f).pgAt q = s.pgAt q := rfl

end Sys2Proof.Machine
end

