-- ==== Sys2Proof/Laws/Binary32.lean ====
section
/-! SUPPORT. Words and their parts: the fields of a word built from sign and magnitude, and the range of a rounded
magnitude. -/

namespace Sys2Proof.Machine

theorem signed_toNat (s : Bool) {m : Nat} (h : m < 2 ^ 31) : (signed s m).toNat = (if s then 2 ^ 31 else 0) + m := by
  unfold signed
  rw [BitVec.toNat_ofNat, Nat.mod_eq_of_lt]
  split <;> omega

theorem sign_eq (w : Word) : w.sign = decide (2 ^ 31 ≤ w.toNat) := by
  have := w.isLt
  rw [Word.sign, BitVec.getLsbD, Nat.testBit_eq_decide_div_mod_eq]
  congr 1
  apply propext
  omega

@[simp] theorem sign_signed (s : Bool) {m : Nat} (h : m < 2 ^ 31) : (signed s m).sign = s := by
  rw [sign_eq, signed_toNat s h]
  cases s <;> simp; omega

theorem expField_signed (s : Bool) {m : Nat} (h : m < 2 ^ 31) : expField (signed s m) = m / 2 ^ 23 := by
  rw [expField, signed_toNat s h]
  split <;> omega

theorem fracField_signed (s : Bool) {m : Nat} (h : m < 2 ^ 31) : fracField (signed s m) = m % 2 ^ 23 := by
  rw [fracField, signed_toNat s h]
  split <;> omega

/-- A rounded magnitude is at most an infinity's. -/
theorem roundMag_le (n d : Nat) : roundMag n d ≤ 0x7F800000 := by
  unfold roundMag; exact Nat.min_le_right _ _

theorem roundMag_lt (n d : Nat) : roundMag n d < 2 ^ 31 := by have := roundMag_le n d; omega

/-- A rounded result is no NaN. -/
theorem isNaN_signed_roundMag (s : Bool) (n d : Nat) : isNaN (signed s (roundMag n d)) = false := by
  have h := roundMag_le n d
  have hl := roundMag_lt n d
  simp only [isNaN, expField_signed s hl, fracField_signed s hl, Bool.and_eq_false_iff, beq_eq_false_iff_ne,
    bne_eq_false_iff_eq]
  omega

/-- A rounded result below the overflow threshold's magnitude is finite. -/
theorem isFinite_signed_roundMag (s : Bool) {n d : Nat} (h : roundMag n d < 0x7F800000) :
    isFinite (signed s (roundMag n d)) = true := by
  simp only [isFinite, expField_signed s (roundMag_lt n d), bne_iff_ne]
  omega

theorem rte_le {n d m : Nat} (hd : 0 < d) (h : n ≤ m * d) : rte n d ≤ m := by
  have hq : n / d ≤ m := Nat.div_le_of_le_mul (by rwa [Nat.mul_comm] at h)
  have hm := Nat.div_add_mod n d
  simp only [rte]
  split
  · rcases Nat.lt_or_eq_of_le hq with hq | hq
    · omega
    · rw [hq, Nat.mul_comm] at hm; omega
  · exact hq

theorem le_rte {n d m : Nat} (hd : 0 < d) (h : m * d ≤ n) : m ≤ rte n d := by
  have hq : m ≤ n / d := (Nat.le_div_iff_mul_le hd).mpr h
  simp only [rte]; split <;> omega

/-- Rounding to the nearest integer keeps order. -/
theorem rte_mono {n n' d : Nat} (h : n ≤ n') : rte n d ≤ rte n' d := by
  have hq : n / d ≤ n' / d := Nat.div_le_div_right h
  have e := Nat.div_add_mod n d
  have e' := Nat.div_add_mod n' d
  rcases Nat.lt_or_eq_of_le hq with hlt | heq
  · have h1 : rte n d ≤ n / d + 1 := by simp only [rte]; split <;> omega
    have h2 : n' / d ≤ rte n' d := by simp only [rte]; split <;> omega
    omega
  · rw [heq] at e
    simp only [rte, heq]
    split <;> split <;> omega

/-- Rounding a magnitude keeps order (R10: roundTiesToEven is monotone). -/
theorem roundMag_mono {n n' d : Nat} (hd : 0 < d) (h : n ≤ n') : roundMag n d ≤ roundMag n' d := by
  have hq : n / d ≤ n' / d := Nat.div_le_div_right h
  have hl : Nat.log2 (n / d) ≤ Nat.log2 (n' / d) := by
    rw [Nat.log2_eq_log_two, Nat.log2_eq_log_two]; exact Nat.log_mono_right hq
  simp only [roundMag]
  refine min_le_min_right _ ?_
  generalize hk : Nat.log2 (n / d) - 23 = k
  generalize hk' : Nat.log2 (n' / d) - 23 = k'
  have hp : 0 < d * 2 ^ k := Nat.mul_pos hd (Nat.two_pow_pos k)
  rcases Nat.lt_or_eq_of_le (show k ≤ k' by omega) with hlt | rfl
  · have h1 : rte n (d * 2 ^ k) ≤ 2 ^ 24 := by
      refine rte_le hp ?_
      have : n / d < 2 ^ (24 + k) := by
        rcases Nat.eq_zero_or_pos (n / d) with h0 | h0
        · rw [h0]; exact Nat.two_pow_pos _
        · exact lt_of_lt_of_le Nat.lt_log2_self (Nat.pow_le_pow_right (by omega) (by omega))
      have h3 : n < 2 ^ (24 + k) * d := (Nat.div_lt_iff_lt_mul hd).mp this
      calc n ≤ 2 ^ (24 + k) * d := h3.le
        _ = 2 ^ 24 * (d * 2 ^ k) := by rw [pow_add]; ring
    have h2 : 2 ^ 23 ≤ rte n' (d * 2 ^ k') := by
      refine le_rte (Nat.mul_pos hd (Nat.two_pow_pos k')) ?_
      have hne : n' / d ≠ 0 := by
        intro h0; rw [h0] at hk'; simp at hk'; omega
      have : 2 ^ (23 + k') ≤ n' / d :=
        (Nat.pow_le_pow_right (by omega) (by omega)).trans (Nat.log2_self_le hne)
      calc 2 ^ 23 * (d * 2 ^ k') = 2 ^ (23 + k') * d := by rw [pow_add]; ring
        _ ≤ n' := (Nat.le_div_iff_mul_le hd).mp this
    have : k * 2 ^ 23 + 2 ^ 23 ≤ k' * 2 ^ 23 := by
      have := Nat.mul_le_mul_right (2 ^ 23) (show k + 1 ≤ k' from hlt); omega
    omega
  · exact Nat.add_le_add_left (rte_mono h) _

theorem rte_mul {m d : Nat} (hd : 0 < d) : rte (m * d) d = m :=
  le_antisymm (rte_le hd le_rfl) (le_rte hd le_rfl)

/-- A magnitude that a finite word holds exactly rounds to that word's bits (R10). -/
theorem roundMag_units {w : Word} (hw : isFinite w = true) {d : Nat} (hd : 0 < d) :
    roundMag (units w * d) d = w.toNat % 2 ^ 31 := by
  have hl := w.isLt
  simp only [isFinite, expField, bne_iff_ne] at hw
  simp only [roundMag, Nat.mul_div_cancel _ hd]
  by_cases he : expField w = 0
  · have hu : units w = fracField w := by simp [units, he]
    have hf : fracField w < 2 ^ 23 := Nat.mod_lt _ (by norm_num)
    have hk : Nat.log2 (units w) - 23 = 0 := by
      rcases Nat.eq_zero_or_pos (units w) with h0 | h0
      · rw [h0]; rfl
      · have := (Nat.log2_lt (by omega : units w ≠ 0)).mpr (show units w < 2 ^ 23 by omega); omega
    rw [hk]
    simp only [pow_zero, mul_one, Nat.zero_mul, Nat.zero_add, rte_mul hd, hu]
    simp only [expField, fracField] at he hf ⊢
    omega
  · have hf : fracField w < 2 ^ 23 := Nat.mod_lt _ (by norm_num)
    obtain ⟨e, hE⟩ : ∃ e, expField w = e + 1 := ⟨expField w - 1, by omega⟩
    have hu : units w = (2 ^ 23 + fracField w) * 2 ^ e := by simp [units, hE]
    have hk : Nat.log2 (units w) = 23 + e := by
      have hne : units w ≠ 0 := by rw [hu]; positivity
      apply le_antisymm
      · refine Nat.lt_succ_iff.mp ((Nat.log2_lt hne).mpr ?_)
        rw [hu, show (23 + e).succ = 24 + e by omega, pow_add]
        exact Nat.mul_lt_mul_of_pos_right (by omega) (Nat.two_pow_pos e)
      · refine (Nat.le_log2 hne).mpr ?_
        rw [hu, pow_add]
        exact Nat.mul_le_mul_right _ (by omega)
    rw [hk, show 23 + e - 23 = e by omega, hu,
      show (2 ^ 23 + fracField w) * 2 ^ e * d = (2 ^ 23 + fracField w) * (d * 2 ^ e) by ring,
      rte_mul (Nat.mul_pos hd (Nat.two_pow_pos e))]
    simp only [expField, fracField] at hE hf ⊢
    omega

theorem toNat_fabs (w : Word) : (fabs w).toNat = w.toNat % 2 ^ 31 := by
  simp only [fabs, BitVec.toNat_and]
  exact Nat.and_two_pow_sub_one_eq_mod _ 31

@[simp] theorem expField_fabs (w : Word) : expField (fabs w) = expField w := by
  simp only [expField, toNat_fabs]; omega

@[simp] theorem fracField_fabs (w : Word) : fracField (fabs w) = fracField w := by
  simp only [fracField, toNat_fabs]; omega

@[simp] theorem sign_fabs (w : Word) : (fabs w).sign = false := by
  rw [sign_eq, toNat_fabs]; simp; omega

@[simp] theorem units_fabs (w : Word) : units (fabs w) = units w := by simp [units]

@[simp] theorem isFinite_fabs (w : Word) : isFinite (fabs w) = isFinite w := by simp [isFinite]

theorem toNat_fneg (w : Word) : (fneg w).toNat = if w.sign then w.toNat - 2 ^ 31 else w.toNat + 2 ^ 31 := by
  have hw := w.isLt
  have hd := Nat.xor_div_two_pow (a := w.toNat) (b := 2 ^ 31) (n := 31)
  have hm := Nat.xor_mod_two_pow (a := w.toNat) (b := 2 ^ 31) (n := 31)
  have e : (fneg w).toNat = w.toNat ^^^ 2 ^ 31 := by simp [fneg, BitVec.toNat_xor]
  rw [e, sign_eq]
  generalize w.toNat ^^^ 2 ^ 31 = x at *
  rcases (by omega : w.toNat / 2 ^ 31 = 0 ∨ w.toNat / 2 ^ 31 = 1) with h | h <;> rw [h] at hd <;> simp at hd hm ⊢ <;>
    split <;> omega

@[simp] theorem expField_fneg (w : Word) : expField (fneg w) = expField w := by
  have := w.isLt
  simp only [expField, toNat_fneg, sign_eq]; split <;> simp_all <;> omega

@[simp] theorem fracField_fneg (w : Word) : fracField (fneg w) = fracField w := by
  have := w.isLt
  simp only [fracField, toNat_fneg, sign_eq]; split <;> simp_all <;> omega

@[simp] theorem sign_fneg (w : Word) : (fneg w).sign = !w.sign := by
  have := w.isLt
  have h := toNat_fneg w
  rw [sign_eq (fneg w), h, sign_eq w]
  by_cases hs : 2 ^ 31 ≤ w.toNat
  · rw [if_pos (by simpa using hs), decide_eq_true hs]; simp; omega
  · rw [if_neg (by simpa using hs), decide_eq_false hs]; simp

@[simp] theorem units_fneg (w : Word) : units (fneg w) = units w := by simp [units]

@[simp] theorem sunits_fneg (w : Word) : sunits (fneg w) = -sunits w := by
  unfold sunits; cases h : w.sign <;> simp [h]

@[simp] theorem isFinite_fneg (w : Word) : isFinite (fneg w) = isFinite w := by simp [isFinite]
@[simp] theorem isNaN_fneg (w : Word) : isNaN (fneg w) = isNaN w := by simp [isNaN]
@[simp] theorem isInf_fneg (w : Word) : isInf (fneg w) = isInf w := by simp [isInf]

/-- A finite word is no NaN and no infinity. -/
theorem not_nan_inf_of_finite {w : Word} (h : isFinite w = true) : isNaN w = false ∧ isInf w = false := by
  simp only [isFinite, bne_iff_ne] at h
  simp [isNaN, isInf, h]

end Sys2Proof.Machine
end

