-- ==== Sys2Proof/Laws/Decode.lean ====
section
/-! SUPPORT. The field split of R161 is a bijection of words and fields, and the arithmetic of the unit checks. -/

namespace Sys2Proof

theorem Fields.toWord_toNat (f : Fields) :
    f.toWord.toNat = f.op.val * 2 ^ 26 + f.rd.val * 2 ^ 23 + f.ra.val * 2 ^ 20 + f.rb.val * 2 ^ 17 + f.rc.val * 2 ^ 14
      + f.ch.val * 2 ^ 12 + f.fn.val * 2 ^ 8 + f.u.val := by
  obtain ⟨⟨_, _⟩, ⟨_, _⟩, ⟨_, _⟩, ⟨_, _⟩, ⟨_, _⟩, ⟨_, _⟩, ⟨_, _⟩, ⟨_, _⟩⟩ := f
  simp only [Fields.toWord, BitVec.toNat_ofNat]
  omega

/-- The fields of a word with given fields are those fields (R161). -/
theorem Fields.ofWord_toWord (f : Fields) : Fields.ofWord f.toWord = f := by
  have h := f.toWord_toNat
  obtain ⟨⟨_, _⟩, ⟨_, _⟩, ⟨_, _⟩, ⟨_, _⟩, ⟨_, _⟩, ⟨_, _⟩, ⟨_, _⟩, ⟨_, _⟩⟩ := f
  simp only [Fields.ofWord, h, Fields.mk.injEq, Fin.ext_iff, Fin.ofNat]
  refine ⟨?_, ?_, ?_, ?_, ?_, ?_, ?_, ?_⟩ <;> omega

/-- A word is the word with its own fields (R161: they fill all 32 bits). -/
theorem Fields.toWord_ofWord (w : Word) : (Fields.ofWord w).toWord = w := by
  apply BitVec.eq_of_toNat_eq
  rw [Fields.toWord_toNat]
  have := w.isLt
  simp only [Fields.ofWord, Fin.ofNat]
  omega

end Sys2Proof
end

