-- ==== Sys2Proof/Laws/Commands.lean ====
section
/-! SUPPORT. What the execution frame, the flags and the bus step can do, each said once. -/

namespace Sys2Proof.Machine

/-- The frame of a legal command runs its body (R172). -/
theorem frameAlways_wf {i : Instr} {s : State} (h : i.wf s.params = true) (body : Word → Out) :
    frameAlways i s body = body (encode i) := by simp [frameAlways, h]

/-- The frame of a legal command on a prepared core runs its body (R172). -/
theorem frame_prepared {i : Instr} {s : State} (h : i.wf s.params = true) (hp : s.prepared = true) (body : Word → Out) :
    frame i s body = body (encode i) := by simp [frame, frameAlways, h, hp]

/-- The frame of a legal command on a core that is not prepared raises SEQ (R172, R482). -/
theorem frame_unprepared {i : Instr} {s : State} (h : i.wf s.params = true) (hp : s.prepared = false)
    (body : Word → Out) : frame i s body = .next (s.raise flagSEQ (encode i)) := by simp [frame, frameAlways, h, hp]

/-- Everything a framed command can do: refuse with ILL, refuse with SEQ, or run its body on a prepared core. -/
theorem frame_cases {i : Instr} {s : State} {body : Word → Out} {o : Out} (h : frame i s body = o) :
    (i.wf s.params = false ∧ o = .next (s.raise flagILL (encode i))) ∨
    (i.wf s.params = true ∧ s.prepared = false ∧ o = .next (s.raise flagSEQ (encode i))) ∨
    (i.wf s.params = true ∧ s.prepared = true ∧ o = body (encode i)) := by
  subst h
  cases hw : i.wf s.params <;> cases hp : s.prepared <;> simp [frame, frameAlways, hw, hp]

/-- Everything NOP's, PREPARE's and RESET's frame can do. -/
theorem frameAlways_cases {i : Instr} {s : State} {body : Word → Out} {o : Out} (h : frameAlways i s body = o) :
    (i.wf s.params = false ∧ o = .next (s.raise flagILL (encode i))) ∨
    (i.wf s.params = true ∧ o = body (encode i)) := by
  subst h
  cases hw : i.wf s.params <;> simp [frameAlways, hw]

/-- A framed command whose fields are `f` obeys the frame. -/
theorem obeysFrame_of_frame {i : Instr} {f : Fields} {s : State} {body : Word → Out} (hf : i.fields = f)
    (hb : exec i s = frame i s body) : ObeysFrame i f s := by
  refine ⟨?_, ?_, ?_⟩
  · rw [← hf]; exact Fields.ofWord_toWord _
  · intro h; rw [hb]; simp [frame, frameAlways, h, State.raise]
  · intro h hp; rw [hb, frame_unprepared h hp]; rfl

/-- A framed command completes with the next state its body gives on a prepared core. -/
theorem completes_of_frame {i : Instr} {s t : State} {body : Word → Out} {f : FlagSet} {banks : List Bank}
    {post : State → Prop} (hb : exec i s = frame i s body) (hw : i.wf s.params = true) (hp : s.prepared = true)
    (ht : body (encode i) = .next t) (hf : Flagged (encode i) f s t) (hk : KeepsExcept banks s t) (h : post t) :
    Completes i s f banks post := ⟨t, by rw [hb, frame_prepared hw hp, ht], hf, hk, h⟩

/-- Legality of a command whose unit exists (R164 (d)) and, for BQPROC, whose channel exists (R164 (e)). -/
theorem wf_iff {p : Params} {i : Instr} : i.wf p = true ↔ i.unitOk p = true ∧ i.channelOk p = true := by simp [Instr.wf]

@[simp] theorem State.flag_zero (s : State) (w : Word) : s.flag w 0 = s := by
  simp [State.flag]

@[simp] theorem sanitize_finite (v : Word) : isFinite (sanitize v).1 = true := by
  unfold sanitize
  split
  · assumption
  · decide

theorem sanitize_of_finite {v : Word} (h : isFinite v = true) : sanitize v = (v, 0) := by simp [sanitize, h]

theorem sanitize_of_not_finite {v : Word} (h : isFinite v = false) : sanitize v = (0, flagNUM) := by
  simp [sanitize, h]

@[simp] theorem State.sample_finite (s : State) (r : Reg) : isFinite (s.sample r).1 = true := sanitize_finite _

theorem foldl_or_getLsbD (l : List FlagSet) (f : FlagSet) (k : Nat) :
    (l.foldl (· ||| ·) f).getLsbD k = true ↔ f.getLsbD k = true ∨ ∃ g ∈ l, g.getLsbD k = true := by
  induction l generalizing f with
  | nil => simp
  | cons g l ih => simp [ih, or_assoc]

/-- A procedure run over a bank flags what any unit of the bank flags. -/
theorem mapFlags_getLsbD {α : Type} (f : α → α × FlagSet) (v : List α) (k : Nat) :
    (mapFlags f v).2.getLsbD k = true ↔ ∃ x ∈ v, (f x).2.getLsbD k = true := by
  simp [mapFlags, foldl_or_getLsbD]

/-! What RecomputeAll (R202) and ResetDynamic (R204) do to one unit. -/

theorem State.bqAt_recomputeAll (s : State) (u : UnitIx) (h : u.val < s.bq.length) :
    s.recomputeAll.1.bqAt u = (recomputeBq s.sr (s.bqAt u)).1 :=
  getD_map (fun x => (recomputeBq s.sr x).1) _ _ _ h
theorem State.envAt_recomputeAll (s : State) (u : UnitIx) (h : u.val < s.env.length) :
    s.recomputeAll.1.envAt u = (recomputeEnv s.limits.rmsWinMax s.sr (s.envAt u)).1 :=
  getD_map (fun x => (recomputeEnv s.limits.rmsWinMax s.sr x).1) _ _ _ h
theorem State.lfoAt_recomputeAll (s : State) (u : UnitIx) (h : u.val < s.lfo.length) :
    s.recomputeAll.1.lfoAt u = (recomputeLfo s.sr (s.lfoAt u)).1 :=
  getD_map (fun x => (recomputeLfo s.sr x).1) _ _ _ h
@[simp] theorem State.dlAt_recomputeAll (s : State) (u : UnitIx) : s.recomputeAll.1.dlAt u = s.dlAt u := rfl
@[simp] theorem State.cvAt_recomputeAll (s : State) (u : UnitIx) : s.recomputeAll.1.cvAt u = s.cvAt u := rfl
@[simp] theorem State.pgAt_recomputeAll (s : State) (u : UnitIx) : s.recomputeAll.1.pgAt u = s.pgAt u := rfl
theorem State.bqAt_resetDynamic (s : State) (u : UnitIx) (h : u.val < s.bq.length) :
    s.resetDynamic.bqAt u = (s.bqAt u).clear :=
  getD_map _ _ _ _ h
theorem State.dlAt_resetDynamic (s : State) (u : UnitIx) (h : u.val < s.dl.length) :
    s.resetDynamic.dlAt u = (s.dlAt u).clear :=
  getD_map _ _ _ _ h
theorem State.envAt_resetDynamic (s : State) (u : UnitIx) (h : u.val < s.env.length) :
    s.resetDynamic.envAt u = (s.envAt u).clear :=
  getD_map _ _ _ _ h
theorem State.lfoAt_resetDynamic (s : State) (u : UnitIx) (h : u.val < s.lfo.length) :
    s.resetDynamic.lfoAt u = (s.lfoAt u).restart :=
  getD_map _ _ _ _ h
theorem State.cvAt_resetDynamic (s : State) (u : UnitIx) (h : u.val < s.cv.length) :
    s.resetDynamic.cvAt u = (s.cvAt u).clearStream :=
  getD_map _ _ _ _ h
theorem State.pgAt_resetDynamic (s : State) (u : UnitIx) (h : u.val < s.pg.length) :
    s.resetDynamic.pgAt u = (s.pgAt u).clear :=
  getD_map _ _ _ _ h

theorem recomputeLfo_fst (sr : Word) (l : LfoUnit) :
    (recomputeLfo sr l).1 = { l with inc := (lfoInc sr l.rfreq).1 } := rfl

theorem LfoUnit.restart_inc (l : LfoUnit) (x : Word) :
    ({ l with inc := x } : LfoUnit).restart = { l with inc := x, phase := 0, rng := l.seed, held := 0 } := rfl

/-- Everything a bus step can do: nothing, or the effect of the oldest access, observed. -/
theorem step_cases (s : State) :
    (s.pending = [] ∧ step s = .next s) ∨
    ∃ a rest, s.pending = a :: rest ∧
      step s = mapNext (fun t => t.observe (accessData { s with pending := rest } a))
        (accessEffect { s with pending := rest } a) := by
  unfold step busStep
  cases h : s.pending with
  | nil => exact .inl ⟨rfl, rfl⟩
  | cons a rest => exact .inr ⟨a, rest, rfl, rfl⟩

theorem mapNext_next_iff {f : State → State} {o : Out} {t : State} :
    mapNext f o = .next t ↔ ∃ u, o = .next u ∧ t = f u := by
  cases o <;> simp [mapNext, eq_comm]

/-- Placing a word for the next step issues a CMD write of it (log 7). -/
theorem withFetchWord_32 (s : State) (w : Nat) (h : w < 2 ^ 32) : s.withFetchWord 32 w = s.issue (BitVec.ofNat 32 w) := by
  rw [State.withFetchWord, Nat.mod_eq_of_lt h]

end Sys2Proof.Machine
end

