-- ==== Sys2Proof/Laws/Memory.lean ====
section
/-! SUPPORT. The store: every operation keeps the canonical form, and what a read gives after each. -/

namespace Sys2Proof.Machine

theorem Mem.read_cons (c : Nat × Word) (m : Mem) (a : Nat) :
    Mem.read (c :: m) a = if c.1 = a then c.2 else Mem.read m a := rfl

@[simp] theorem Mem.read_nil (a : Nat) : Mem.read [] a = 0 := rfl

theorem Mem.read_of_forall_ne (m : Mem) (a : Nat) (h : ∀ c ∈ m, c.1 ≠ a) : m.read a = 0 := by
  induction m with
  | nil => rfl
  | cons c m ih =>
    rw [Mem.read_cons, if_neg (h c (by simp)), ih fun d hd => h d (by simp [hd])]

theorem Mem.wf_cons {c : Nat × Word} {m : Mem} :
    Mem.wf (c :: m) ↔ (∀ d ∈ m, c.1 < d.1) ∧ c.2 ≠ 0 ∧ m.wf := by
  simp only [Mem.wf, List.pairwise_cons, List.mem_cons, forall_eq_or_imp]
  tauto

theorem Mem.mem_write {m : Mem} {a : Nat} {v : Word} {c : Nat × Word} (h : c ∈ m.write a v) :
    c ∈ m ∨ (c = (a, v) ∧ v ≠ 0) := by
  induction m with
  | nil =>
    simp only [Mem.write] at h
    split at h
    · simp at h
    · simp_all
  | cons d m ih =>
    simp only [Mem.write] at h
    split at h
    · split at h
      · exact .inl h
      · simp only [List.mem_cons] at h ⊢; tauto
    · split at h
      · split at h
        · exact .inl (List.mem_cons_of_mem _ h)
        · simp only [List.mem_cons] at h ⊢; tauto
      · simp only [List.mem_cons] at h ⊢
        rcases h with h | h
        · exact .inl (.inl h)
        · rcases ih h with h | h
          · exact .inl (.inr h)
          · exact .inr h

theorem Mem.write_wf {m : Mem} (h : m.wf) (a : Nat) (v : Word) : (m.write a v).wf := by
  induction m with
  | nil => simp only [Mem.write]; split <;> simp_all [Mem.wf]
  | cons c m ih =>
    obtain ⟨h1, h2, h3⟩ := Mem.wf_cons.mp h
    simp only [Mem.write]
    split
    · split
      · exact h
      · refine Mem.wf_cons.mpr ⟨?_, by assumption, h⟩
        intro d hd
        rcases List.mem_cons.mp hd with rfl | hd
        · assumption
        · have := h1 d hd; show a < d.1; omega
    · split
      · next e =>
        split
        · exact h3
        · exact Mem.wf_cons.mpr ⟨fun d hd => e ▸ h1 d hd, by assumption, h3⟩
      · refine Mem.wf_cons.mpr ⟨?_, h2, ih h3⟩
        intro d hd
        rcases Mem.mem_write hd with hd | ⟨rfl, -⟩
        · exact h1 d hd
        · show c.1 < a; omega

/-- A read after a write of a store in canonical form. -/
theorem Mem.read_write {m : Mem} (h : m.wf) (a : Nat) (v : Word) (b : Nat) :
    (m.write a v).read b = if b = a then v else m.read b := by
  induction m with
  | nil =>
    simp only [Mem.write]
    split
    · simp_all
    · simp [Mem.read_cons, eq_comm]
  | cons c m ih =>
    obtain ⟨h1, h2, h3⟩ := Mem.wf_cons.mp h
    have hlow : ∀ b, b ≤ c.1 → Mem.read m b = 0 := fun b hb =>
      Mem.read_of_forall_ne _ _ fun d hd => by have := h1 d hd; omega
    simp only [Mem.write]
    split
    · split
      · next hv =>
        subst hv
        by_cases e : b = a
        · subst e; rw [if_pos rfl, Mem.read_cons, if_neg (by omega), hlow _ (by omega)]
        · rw [if_neg e]
      · rw [Mem.read_cons]
        simp only [eq_comm]
    · split
      · next e =>
        split
        · next hv =>
          subst hv
          by_cases e' : b = a
          · rw [if_pos e', hlow _ (by omega)]
          · rw [if_neg e', Mem.read_cons, if_neg (by omega)]
        · rw [Mem.read_cons, Mem.read_cons]
          by_cases e' : b = a
          · simp [e']
          · rw [if_neg (by simpa [eq_comm] using e'), if_neg e', if_neg (by omega)]
      · rw [Mem.read_cons, Mem.read_cons, ih h3]
        split
        · rw [if_neg (by omega)]
        · rfl

theorem Mem.write_finite {m : Mem} (h : m.Finite) (a : Nat) {v : Word} (hv : isFinite v = true) :
    (m.write a v).Finite := fun c hc => by
  rcases Mem.mem_write hc with hc | ⟨rfl, -⟩
  · exact h c hc
  · exact hv

theorem Mem.write_below {m : Mem} {n a : Nat} (h : m.Below n) (ha : a < n) (v : Word) : (m.write a v).Below n :=
  fun c hc => by
  rcases Mem.mem_write hc with hc | ⟨rfl, -⟩
  · exact h c hc
  · exact ha

theorem Mem.read_finite {m : Mem} (h : m.Finite) (a : Nat) : isFinite (m.read a) = true := by
  induction m with
  | nil => simp only [Mem.read_nil]; decide
  | cons c m ih =>
    rw [Mem.read_cons]
    split
    · exact h c (by simp)
    · exact ih fun d hd => h d (by simp [hd])

theorem Mem.zeroRange_wf {m : Mem} (h : m.wf) (b n : Nat) : (m.zeroRange b n).wf :=
  ⟨h.1.filter _, fun c hc => h.2 c (List.mem_filter.mp hc).1⟩

theorem Mem.zeroRange_finite {m : Mem} (h : m.Finite) (b n : Nat) : (m.zeroRange b n).Finite :=
  fun c hc => h c (List.mem_filter.mp hc).1

theorem Mem.zeroRange_below {m : Mem} {k : Nat} (h : m.Below k) (b n : Nat) : (m.zeroRange b n).Below k :=
  fun c hc => h c (List.mem_filter.mp hc).1

/-- Zeroing a range: its words read +0.0, every other word as before. -/
theorem Mem.read_zeroRange (m : Mem) (b n : Nat) : ZeroedOn b n m (m.zeroRange b n) := by
  intro a
  induction m with
  | nil => simp [Mem.zeroRange]
  | cons c m ih =>
    rw [Mem.read_cons]
    by_cases hc : c.1 < b ∨ b + n ≤ c.1
    · rw [show Mem.zeroRange (c :: m) b n = c :: Mem.zeroRange m b n from List.filter_cons_of_pos (by simpa using hc),
        Mem.read_cons, ih]
      split
      · rw [if_neg (by omega)]
      · rfl
    · rw [show Mem.zeroRange (c :: m) b n = Mem.zeroRange m b n from List.filter_cons_of_neg (by simpa using hc), ih]
      split
      · rfl
      · rw [if_neg (by omega)]

theorem Mem.ofWordsFrom_bounds (vs : List Word) (a : Nat) :
    ∀ c ∈ Mem.ofWordsFrom a vs, a ≤ c.1 ∧ c.1 < a + vs.length ∧ c.2 ∈ vs ∧ c.2 ≠ 0 := by
  induction vs generalizing a with
  | nil => simp [Mem.ofWordsFrom]
  | cons v vs ih =>
    intro c hc
    simp only [Mem.ofWordsFrom] at hc
    have step : c ∈ Mem.ofWordsFrom (a + 1) vs → _ := fun h => ih (a + 1) c h
    split at hc
    · obtain ⟨h1, h2, h3, h4⟩ := step hc
      simp only [List.length_cons, List.mem_cons]
      exact ⟨by omega, by omega, .inr h3, h4⟩
    · rcases List.mem_cons.mp hc with rfl | hc
      · simp_all
      · obtain ⟨h1, h2, h3, h4⟩ := step hc
        simp only [List.length_cons, List.mem_cons]
        exact ⟨by omega, by omega, .inr h3, h4⟩

theorem Mem.ofWordsFrom_wf (vs : List Word) (a : Nat) : (Mem.ofWordsFrom a vs).wf := by
  induction vs generalizing a with
  | nil => exact ⟨.nil, by simp [Mem.ofWordsFrom]⟩
  | cons v vs ih =>
    simp only [Mem.ofWordsFrom]
    split
    · exact ih _
    · exact Mem.wf_cons.mpr ⟨fun d hd => (Mem.ofWordsFrom_bounds _ _ d hd).1, by assumption, ih _⟩

theorem Mem.read_ofWordsFrom (vs : List Word) (a b : Nat) :
    (Mem.ofWordsFrom a vs).read b = if a ≤ b then vs.getD (b - a) 0 else 0 := by
  induction vs generalizing a with
  | nil => simp [Mem.ofWordsFrom]
  | cons v vs ih =>
    simp only [Mem.ofWordsFrom]
    by_cases hb : a ≤ b
    · by_cases e : a = b
      · subst e
        split
        · next hv => rw [ih, if_neg (by omega)]; simp [hv]
        · simp [Mem.read_cons]
      · obtain ⟨k, rfl⟩ : ∃ k, b = a + 1 + k := ⟨b - a - 1, by omega⟩
        have e2 : a + 1 + k - a = k + 1 := by omega
        have e3 : a + 1 + k - (a + 1) = k := by omega
        split
        · rw [ih]; simp [e2, e3]
        · rw [Mem.read_cons, if_neg (by simpa using e), ih]; simp [e2, e3]
    · have hz : ∀ m, (m = Mem.ofWordsFrom (a + 1) vs) → m.read b = 0 := by
        rintro m rfl
        exact Mem.read_of_forall_ne _ _ fun c hc => by have := Mem.ofWordsFrom_bounds _ _ c hc; omega
      rw [if_neg hb]
      split
      · exact hz _ rfl
      · rw [Mem.read_cons, if_neg (by simp; omega)]; exact hz _ rfl

@[simp] theorem Mem.read_ofWords (vs : List Word) (b : Nat) : (Mem.ofWords vs).read b = vs.getD b 0 := by
  simp [Mem.ofWords, Mem.read_ofWordsFrom]

theorem Mem.ofWords_wf (vs : List Word) : (Mem.ofWords vs).wf := Mem.ofWordsFrom_wf vs 0

theorem Mem.ofWords_below (vs : List Word) : (Mem.ofWords vs).Below vs.length := fun c hc => by
  have := (Mem.ofWordsFrom_bounds vs 0 c hc).2.1; omega

theorem Mem.ofWords_finite (vs : List Word) (h : ∀ v ∈ vs, isFinite v = true) : (Mem.ofWords vs).Finite :=
  fun c hc => h _ (Mem.ofWordsFrom_bounds vs 0 c hc).2.2.1

theorem Mem.nil_wf : Mem.wf [] := ⟨.nil, by simp⟩

theorem Mem.nil_finite : Mem.Finite [] := fun c hc => by simp at hc

theorem Mem.nil_below (n : Nat) : Mem.Below [] n := fun c hc => by simp at hc

end Sys2Proof.Machine
end

