-- ==== Sys2Proof/Laws/PerInstr.lean ====
section
/-! SUPPORT. Statements made of every command, one lemma for each constructor. -/

namespace Sys2Proof.Laws.FieldsRead

/-- The opcode map reads a command back from its own fields (R164 (a) to (c), R165). -/
def Statement (i : Instr) : Prop := i.fields.command = .ok i

theorem nop : Statement .nop := rfl
theorem prepare (ra rb : Reg) : Statement (.prepare ra rb) := rfl
theorem reset : Statement .reset := rfl
theorem fadd (rd ra rb : Reg) : Statement (.fadd rd ra rb) := rfl
theorem fsub (rd ra rb : Reg) : Statement (.fsub rd ra rb) := rfl
theorem fmul (rd ra rb : Reg) : Statement (.fmul rd ra rb) := rfl
theorem fmac (rd ra rb rc : Reg) : Statement (.fmac rd ra rb rc) := rfl
theorem sclip (rd ra : Reg) : Statement (.sclip rd ra) := rfl
theorem bqdes (rd ra rb rc : Reg) (t : FilterType) (u : UnitIx) : Statement (.bqdes rd ra rb rc t u) := by
  cases t <;> exact rfl
theorem bqproc (rd ra : Reg) (c : ChanIx) (u : UnitIx) : Statement (.bqproc rd ra c u) := rfl
theorem bqclr (u : UnitIx) : Statement (.bqclr u) := rfl
theorem bqrdc (rd : Reg) (k : CoefIndex) (u : UnitIx) : Statement (.bqrdc rd k u) := by cases k <;> exact rfl
theorem dlcfg (ra rb : Reg) (u : UnitIx) : Statement (.dlcfg ra rb u) := rfl
theorem dlwr (ra : Reg) (u : UnitIx) : Statement (.dlwr ra u) := rfl
theorem dlrdl (rd ra : Reg) (u : UnitIx) : Statement (.dlrdl rd ra u) := rfl
theorem dlrdc (rd ra : Reg) (u : UnitIx) : Statement (.dlrdc rd ra u) := rfl
theorem dlclr (u : UnitIx) : Statement (.dlclr u) := rfl
theorem envcfg (pol : Policy) (det : Detector) (u : UnitIx) : Statement (.envcfg pol det u) := by
  cases pol <;> cases det <;>
  simp [Statement, Instr.fields, Fields.command, unused, envcfgFn, Policy.ofFn, Detector.ofFn]
theorem envatk (rd ra : Reg) (u : UnitIx) : Statement (.envatk rd ra u) := rfl
theorem envrel (rd ra : Reg) (u : UnitIx) : Statement (.envrel rd ra u) := rfl
theorem envwin (ra : Reg) (u : UnitIx) : Statement (.envwin ra u) := rfl
theorem envproc (rd ra : Reg) (u : UnitIx) : Statement (.envproc rd ra u) := rfl
theorem envdb (rd ra : Reg) : Statement (.envdb rd ra) := rfl
theorem envclr (u : UnitIx) : Statement (.envclr u) := rfl
theorem lfofrq (ra : Reg) (u : UnitIx) : Statement (.lfofrq ra u) := rfl
theorem lfowav (wave : Waveform) (u : UnitIx) : Statement (.lfowav wave u) := by cases wave <;> exact rfl
theorem lfoofs (ra : Reg) (u : UnitIx) : Statement (.lfoofs ra u) := rfl
theorem lfotick (rd : Reg) (u : UnitIx) : Statement (.lfotick rd u) := rfl
theorem lfoseed (ra : Reg) (u : UnitIx) : Statement (.lfoseed ra u) := rfl
theorem lfordph (rd : Reg) (u : UnitIx) : Statement (.lfordph rd u) := rfl
theorem lforst (u : UnitIx) : Statement (.lforst u) := rfl
theorem cvcfg (ra : Reg) (u : UnitIx) : Statement (.cvcfg ra u) := rfl
theorem cvpush (ra : Reg) (u : UnitIx) : Statement (.cvpush ra u) := rfl
theorem cvload (rd : Reg) (u : UnitIx) : Statement (.cvload rd u) := rfl
theorem cvproc (rd ra : Reg) (u : UnitIx) : Statement (.cvproc rd ra u) := rfl
theorem cvlat (rd : Reg) (u : UnitIx) : Statement (.cvlat rd u) := rfl
theorem cvunld (u : UnitIx) : Statement (.cvunld u) := rfl
theorem cvclr (u : UnitIx) : Statement (.cvclr u) := rfl
theorem pgset (ra : Reg) (u : UnitIx) : Statement (.pgset ra u) := rfl
theorem pgchk (rd : Reg) (u : UnitIx) : Statement (.pgchk rd u) := rfl
theorem pgget (rd : Reg) (u : UnitIx) : Statement (.pgget rd u) := rfl

end Sys2Proof.Laws.FieldsRead
end

