-- ==== Sys2Proof/Tests/Slice0.lean ====
section
/-! SUPPORT. Tests of the model. Expected words and values are the spec's own: the field layout of R161 and the rows of
R165 for encodings, the Example and Corner cases lines of the command rules and 95_test_vectors.md for results. -/

namespace Sys2Proof.Tests

open Sys2Proof Sys2Proof.Machine

/-- Decoding on a core with the default parameters (R6). -/
abbrev decoded (w : Word) : Except Illegal Instr := decode Params.default w

theorem default_legal : Params.default.Legal where
  nbq := by decide
  nch := by decide
  ndl := by decide
  nenv := by decide
  nlfo := by decide
  ncv := by decide
  npg := by decide
  dmemWords := by decide
  irMaxLen := by decide
  rmsWinMax := by decide
  convTol := by decide

/-! ## WellFormed: each check refuses an ill-formed term (R164 (d), (e)) -/

theorem test_wf_refuses_biquad_unit : (Instr.bqclr 16).wf Params.default = false := by decide
theorem test_wf_refuses_delay_unit : (Instr.dlwr 0 8).wf Params.default = false := by decide
theorem test_wf_refuses_envelope_unit : (Instr.envclr 4).wf Params.default = false := by decide
theorem test_wf_refuses_lfo_unit : (Instr.lforst 4).wf Params.default = false := by decide
theorem test_wf_refuses_convolver_unit : (Instr.cvlat 0 2).wf Params.default = false := by decide
theorem test_wf_refuses_gate_slot : (Instr.pgget 0 64).wf Params.default = false := by decide
theorem test_wf_refuses_channel : (Instr.bqproc 1 0 2 0).wf Params.default = false := by decide
theorem test_wf_accepts_last_units :
    (Instr.bqproc 1 0 1 15).wf Params.default = true ∧ (Instr.dlwr 0 7).wf Params.default = true ∧ (Instr.pgget 0 63).wf Params.default = true := by decide

/-! ## Decoding: a word of every command, from the spec's examples -/

theorem test_decode_control :
    decoded 0x00000000 = .ok .nop ∧ decoded 0x04020000 = .ok (.prepare 0 1) ∧ decoded 0x08000000 = .ok .reset := by
  decide
theorem test_decode_glue :
    decoded 0x0D020000 = .ok (.fadd 2 0 1) ∧ decoded 0x11020000 = .ok (.fsub 2 0 1) ∧
    decoded 0x15020000 = .ok (.fmul 2 0 1) ∧ decoded 0x19828000 = .ok (.fmac 3 0 1 2) ∧
    decoded 0x1C800000 = .ok (.sclip 1 0) := by decide
theorem test_decode_biquad :
    decoded 0x21828000 = .ok (.bqdes 3 0 1 2 .lowpass 0) ∧ decoded 0x22028400 = .ok (.bqdes 4 0 1 2 .peak 0) ∧
    decoded 0x24801003 = .ok (.bqproc 1 0 1 3) ∧ decoded 0x28000002 = .ok (.bqclr 2) ∧
    decoded 0x2C000300 = .ok (.bqrdc 0 .a1 0) := by decide
theorem test_decode_delay :
    decoded 0x40020001 = .ok (.dlcfg 0 1 1) ∧ decoded 0x44000000 = .ok (.dlwr 0 0) ∧
    decoded 0x49100000 = .ok (.dlrdl 2 1 0) ∧ decoded 0x4D100005 = .ok (.dlrdc 2 1 5) ∧
    decoded 0x50000003 = .ok (.dlclr 3) := by decide
theorem test_decode_envelope :
    decoded 0x60000301 = .ok (.envcfg .smoothedAttack .rms 1) ∧ decoded 0x64800000 = .ok (.envatk 1 0 0) ∧
    decoded 0x68800000 = .ok (.envrel 1 0 0) ∧ decoded 0x6C000000 = .ok (.envwin 0 0) ∧
    decoded 0x70800000 = .ok (.envproc 1 0 0) ∧ decoded 0x74800000 = .ok (.envdb 1 0) ∧
    decoded 0x78000000 = .ok (.envclr 0) := by decide
theorem test_decode_lfo :
    decoded 0x80000000 = .ok (.lfofrq 0 0) ∧ decoded 0x84000300 = .ok (.lfowav .sawtooth 0) ∧
    decoded 0x88000001 = .ok (.lfoofs 0 1) ∧ decoded 0x8C800000 = .ok (.lfotick 1 0) ∧
    decoded 0x90000000 = .ok (.lfoseed 0 0) ∧ decoded 0x95000000 = .ok (.lfordph 2 0) ∧
    decoded 0x98000000 = .ok (.lforst 0) := by decide
theorem test_decode_convolver :
    decoded 0xA0000000 = .ok (.cvcfg 0 0) ∧ decoded 0xA4100000 = .ok (.cvpush 1 0) ∧
    decoded 0xA9000000 = .ok (.cvload 2 0) ∧ decoded 0xAC800000 = .ok (.cvproc 1 0 0) ∧
    decoded 0xB2800000 = .ok (.cvlat 5 0) ∧ decoded 0xB4000000 = .ok (.cvunld 0) ∧
    decoded 0xB8000000 = .ok (.cvclr 0) := by decide
theorem test_decode_gate :
    decoded 0xC0000005 = .ok (.pgset 0 5) ∧ decoded 0xC4800005 = .ok (.pgchk 1 5) ∧
    decoded 0xC9000005 = .ok (.pgget 2 5) := by decide
/-- R164 (a): unassigned opcodes, of R165's list. -/
theorem test_decode_refuses_opcodes :
    decoded 0x30000000 = .error .opcode ∧ decoded 0x54000000 = .error .opcode ∧ decoded 0x7C000000 = .error .opcode ∧
    decoded 0x9C000000 = .error .opcode ∧ decoded 0xBC000000 = .error .opcode ∧ decoded 0xFFFFFFFF = .error .opcode := by
  decide
/-- R164 (b): a nonzero unused field, among them FN bits 3:2 of ENVCFG. -/
theorem test_decode_refuses_unused_fields :
    decoded 0x00000001 = .error .unusedField ∧ decoded 0x0D020001 = .error .unusedField ∧
    decoded 0x60000400 = .error .unusedField ∧ decoded 0x74800001 = .error .unusedField := by decide
/-- R164 (c) to (e), at the first value past each range. -/
theorem test_decode_refuses_ranges :
    decoded 0x20000800 = .error .selector ∧ decoded 0x2C000500 = .error .selector ∧
    decoded 0x84000500 = .error .selector ∧ decoded 0x28000010 = .error .unitRange ∧
    decoded 0x50000008 = .error .unitRange ∧ decoded 0x24002000 = .error .channelRange := by decide
theorem test_encode_examples :
    encode (.bqdes 4 0 1 2 .peak 0) = 0x22028400 ∧ encode (.dlrdc 2 1 5) = 0x4D100005 ∧
    encode (.envcfg .smoothedAttack .rms 1) = 0x60000301 ∧ encode (.bqproc 1 0 1 3) = 0x24801003 := by decide
theorem test_decodeTableWord : decodeTableWord 32 0x24801003 = some (.bqproc 1 0 1 3) := by decide

/-! ## Numeric primitives -/

/-- R205, R206: 1.5 + 2.25 = 3.75; opposite values give +0; the two negative zeros give -0; overflow gives +Inf. -/
theorem test_fadd :
    fadd 0x3FC00000 0x40100000 = 0x40700000 ∧ fadd 0x3F800000 0xBF800000 = 0x00000000 ∧
    fadd 0x80000000 0x80000000 = 0x80000000 ∧ fadd 0x7F7FFFFF 0x7F7FFFFF = 0x7F800000 := by decide
/-- R208: with b = c = 1 + 2^-12 the product rounds to 1 + 2^-11, so the sum with -1 is 2^-11. -/
theorem test_fmul_is_rounded_before_fadd :
    fadd 0xBF800000 (fmul 0x3F800800 0x3F800800) = 0x3A000000 := by decide
/-- R207: (-1)·(+0) = -0; the least subnormal halved is a tie that goes to the even zero. -/
theorem test_fmul_zero_and_underflow :
    fmul 0xBF800000 0x00000000 = 0x80000000 ∧ fmul 0x00000001 0x3F000000 = 0x00000000 ∧
    fmul 0x00000003 0x3F000000 = 0x00000002 := by decide
/-- R10: 1/3 to nearest, and a subnormal quotient. -/
theorem test_fdiv : fdiv 0x3F800000 0x40400000 = 0x3EAAAAAB ∧ fdiv 0x00800000 0x40000000 = 0x00400000 := by
  decide
/-- R10: the roots of 4, of 2 (RN32(√2) = 0x3FB504F3) and of 0.5 (R13: RN32(√0.5) = 0x3F3504F3). -/
theorem test_fsqrt :
    fsqrt 0x40800000 = 0x40000000 ∧ fsqrt 0x40000000 = 0x3FB504F3 ∧ fsqrt 0x3F000000 = 0x3F3504F3 := by decide +kernel
/-- R411: 100 is nearer to 128; 48 is as near to 64 as to 32 and takes the larger; 0 and 5000 take the ends. -/
theorem test_nearestBlock :
    nearestBlock 100 = 128 ∧ nearestBlock 48 = 64 ∧ nearestBlock 0 = 32 ∧ nearestBlock 5000 = 4096 := by decide
/-- R375: the first generator words from 1 and the HELD values they give. -/
theorem test_generator :
    xorshift32 1 = 0x00042021 ∧ xorshift32 0x00042021 = 0x04080601 ∧ xorshift32 0x04080601 = 0x9DCCA8C5 ∧
    rn32Int (0x00042021 : Word).toInt 31 = 0x39040420 ∧ rn32Int (0x9DCCA8C5 : Word).toInt 31 = 0xBF4466AE := by
  decide
/-- R381, R382, R384: corner values of the waveforms. -/
theorem test_waveforms :
    waveSine 0x40000000 = 0x3F800000 ∧ waveSine 0x80000000 = 0x00000000 ∧ waveSine 0xC0000000 = 0xBF800000 ∧
    waveTriangle 0xA0000000 = 0xBF000000 ∧ waveSaw 0x00000000 = 0xBF800000 ∧ waveSaw 0xFFFFFFFF = 0x3F800000 := by
  decide

/-! ## One step of each command -/

/-- A small prepared state: the reset state with PREPARED set and the coefficient pairs an EnvCoef could have left. -/
def ready : State :=
  { State.reset with
    prepared := true
    maxblk := 256
    env := List.replicate 4
      { EnvUnit.reset with
        ac := 0x3F000000, ag := 0x3F000000, rc := 0x3F000000, rg := 0x3F000000
        cfsa := 0x473B8000, cfsr := 0x473B8000 } }

/-- `ready` with two data registers loaded. -/
def with2 (a b : Word) : State := (ready.setReg 0 a).setReg 1 b

/-- The next state of a command that has one. -/
def run (i : Instr) (s : State) : State :=
  match exec i s with
  | .next t => t
  | .fault _ => s
  | .refused _ => s

/-- R200, and R172 (SEQ): NOP runs on a core that is not prepared, FADD does not. -/
theorem test_nop_is_exempt_from_seq :
    (run .nop State.reset).status = 0 ∧ (run (.fadd 2 0 1) State.reset).status = flagSEQ ∧
    (run (.fadd 2 0 1) State.reset).errcmd = 0x0D020000 := by decide
/-- R201, the rule's example: 44100.0 and 256. -/
theorem test_prepare_example :
    (run (.prepare 0 1) (with2 0x472C4400 256)).sr = 0x472C4400 ∧
    (run (.prepare 0 1) (with2 0x472C4400 256)).maxblk = 256 ∧
    (run (.prepare 0 1) (with2 0x472C4400 256)).prepared = true := by decide
/-- R201: a NaN rate gives 48000.0, and a maxBlock of 0 gives 1. -/
theorem test_prepare_clamps :
    (run (.prepare 0 1) (with2 0x7FC00000 0)).sr = 0x473B8000 ∧
    (run (.prepare 0 1) (with2 0x7FC00000 0)).maxblk = 1 := by decide
/-- R203, R204. -/
theorem test_reset_clears_dynamic_state :
    (run .reset (ready.setDmem [(5, 0x3F800000)])).dmem = [] ∧ (run .reset ready).prepared = true := by decide
/-- R205, the rule's example. -/
theorem test_fadd_example : (run (.fadd 2 0 1) (with2 0x3FC00000 0x40100000)).reg 2 = 0x40700000 := by decide
/-- R205: overflow gives +0.0 with NUM. -/
theorem test_fadd_overflow :
    (run (.fadd 2 0 1) (with2 0x7F7FFFFF 0x7F7FFFFF)).reg 2 = 0 ∧
    (run (.fadd 2 0 1) (with2 0x7F7FFFFF 0x7F7FFFFF)).status = flagNUM := by decide
/-- R206, the rule's example. -/
theorem test_fsub_example : (run (.fsub 2 0 1) (with2 0x3F800000 0x3F000000)).reg 2 = 0x3F000000 := by decide
/-- R207, the rule's example. -/
theorem test_fmul_example : (run (.fmul 2 0 1) (with2 0x3F000000 0xC0000000)).reg 2 = 0xBF800000 := by decide
/-- R208, the rule's example: 1 + 2·3 = 7. -/
theorem test_fmac_example :
    (run (.fmac 3 0 1 2) ((with2 0x3F800000 0x40000000).setReg 2 0x40400000)).reg 3 = 0x40E00000 := by decide
/-- R209: +0 gives +0, and so does an infinity, with NUM. -/
theorem test_sclip :
    (run (.sclip 1 0) (with2 0 0x3F800000)).reg 1 = 0 ∧ (run (.sclip 1 0) (with2 0x7F800000 0)).reg 1 = 0 ∧
    (run (.sclip 1 0) (with2 0x7F800000 0)).status = flagNUM := by decide
/-- R252: a first design writes 1. -/
theorem test_bqdes_recomputes : (run (.bqdes 3 0 1 2 .lowpass 0) (with2 0x447A0000 0x3F3504F3)).reg 3 = 1 := by
  decide
/-- R252: the stored words and rate keep the unit, and 0 is written. -/
theorem test_bqdes_keeps :
    (run (.bqdes 3 0 1 2 .lowpass 0)
      ((with2 0x447A0000 0x3F3504F3).setBq 0 { BqUnit.reset with designed := true, cfs := 0x473B8000 })).reg 3 = 0 := by
  decide
/-- R253, the rule's example: an undesigned unit passes 0.5 through. -/
theorem test_bqproc_example : (run (.bqproc 1 0 0 0) (with2 0x3F000000 0)).reg 1 = 0x3F000000 := by decide
/-- BQ-20 (95_test_vectors.md): an input of -0.0 gives +0.0. -/
theorem test_bqproc_negative_zero : (run (.bqproc 1 0 0 0) (with2 0x80000000 0)).reg 1 = 0 := by decide
/-- R254. -/
theorem test_bqclr :
    ((run (.bqclr 2)
      (ready.setBq 2 { BqUnit.reset with z1 := Vector.replicate 4 0x3F800000 })).bqAt 2).z1.get 1 = 0 := by decide
/-- R255: an undesigned unit reads 1.0 for B0. -/
theorem test_bqrdc : (run (.bqrdc 0 .b0 0) ready).reg 0 = 0x3F800000 ∧ (run (.bqrdc 1 .a1 0) ready).reg 1 = 0 := by
  decide
/-- R294, the rule's example. -/
theorem test_dlcfg_example : (run (.dlcfg 0 1 1) (with2 4096 1000)).dlAt 1 = ⟨4096, 1003, 0⟩ := by decide
/-- R294: a base past the RAM is clamped with RSRC. -/
theorem test_dlcfg_clamps :
    (run (.dlcfg 0 1 1) (with2 0xFFFFFFFF 0xFFFFFFFF)).dlAt 1 = ⟨1048573, 3, 0⟩ ∧
    (run (.dlcfg 0 1 1) (with2 0xFFFFFFFF 0xFFFFFFFF)).status = flagRSRC := by decide
/-- R296, the rule's example. -/
theorem test_dlwr_example :
    (run (.dlwr 0 0) (with2 0x3F800000 0)).dmem = [(1, 0x3F800000)] ∧
    ((run (.dlwr 0 0) (with2 0x3F800000 0)).dlAt 0).wi = 1 := by decide
/-- R297, the rule's example: tap(0) = 1.0, tap(1) = 0.0, delay 0.25. -/
theorem test_dlrdl_example :
    (run (.dlrdl 2 1 0) ((with2 0 0x3E800000).setDmem [(0, 0x3F800000)])).reg 2 = 0x3F400000 := by decide
/-- R298, the rule's example: tap(2) = 1.0, delay 2.5. -/
theorem test_dlrdc_example :
    (run (.dlrdc 2 1 0) ((with2 0 0x40200000).setDmem [(131070, 0x3F800000)])).reg 2 = 0x3F100000 := by decide
/-- R291: a delay of -1.0 flags CLAMP, one of +Inf flags RSRC. -/
theorem test_dlrdl_clamps :
    (run (.dlrdl 2 1 0) (with2 0 0xBF800000)).status = flagCLAMP ∧
    (run (.dlrdl 2 1 0) (with2 0 0x7F800000)).status = flagRSRC := by decide
/-- R299. -/
theorem test_dlclr :
    (run (.dlclr 0) ((ready.setDl 0 ⟨0, 4, 2⟩).setDmem [(3, 0x3F800000), (4, 0x40000000)])).dmem =
      [(4, 0x40000000)] := by decide
/-- R337, the rule's example. -/
theorem test_envcfg_example :
    ((run (.envcfg .smoothedAttack .rms 1) ready).envAt 1).det = .rms := by decide
/-- R338, R339: the reset words of τ are kept right after PREPARE. -/
theorem test_envatk_keeps : (run (.envatk 1 0 0) (with2 0x41200000 7)).reg 1 = 0 := by decide
theorem test_envrel_keeps : (run (.envrel 1 0 0) (with2 0x42C80000 7)).reg 1 = 0 := by decide
/-- R338: another word recomputes. -/
theorem test_envatk_recomputes : (run (.envatk 1 0 0) (with2 0x3F800000 7)).reg 1 = 1 := by decide
/-- R340, the rule's example: 50 ms at 48000 Hz are 2400 samples. -/
theorem test_envwin_example : ((run (.envwin 0 0) (with2 0x42480000 0)).envAt 0).w = 2400 := by decide
/-- R341: with an instant attack a rising input is followed exactly; the smoothed attack of `ready` halves it. -/
theorem test_envproc :
    (run (.envproc 1 0 0) ((with2 0xC0000000 0).setEnv 0 { EnvUnit.reset with pol := .instantAttack })).reg 1 =
      0x40000000 ∧ (run (.envproc 1 0 0) (with2 0xC0000000 0)).reg 1 = 0x3F800000 := by decide
/-- R334: one RMS sample in a window of one: the root of its square. -/
theorem test_envproc_rms :
    (run (.envproc 1 0 0)
      ((with2 0xC0000000 0).setEnv 0
        { EnvUnit.reset with pol := .instantAttack, det := .rms })).reg 1 = 0x40000000 := by
  decide +kernel
/-- R342: ENVDB writes no register but rd. -/
theorem test_envdb_keeps_operand : (run (.envdb 1 0) (with2 0x3F000000 0)).reg 0 = 0x3F000000 := by decide
/-- R343. -/
theorem test_envclr :
    ((run (.envclr 0) (ready.setEnv 0 { EnvUnit.reset with level := 0x3F800000 })).envAt 0).level = 0 := by
  decide
/-- R371, the rule's example: 12000.0 Hz at 48000.0 Hz. -/
theorem test_lfofrq_example : ((run (.lfofrq 0 0) (with2 0x463B8000 0)).lfoAt 0).inc = 0x40000000 := by decide
/-- R372, the rule's example. -/
theorem test_lfowav_example : ((run (.lfowav .sawtooth 0) ready).lfoAt 0).wave = .sawtooth := by decide
/-- R373: 0.25 gives 0x40000000 and -0.25 gives 0xC0000000. -/
theorem test_lfoofs :
    ((run (.lfoofs 0 1) (with2 0x3E800000 0)).lfoAt 1).ofs = 0x40000000 ∧
    ((run (.lfoofs 0 1) (with2 0xBE800000 0)).lfoAt 1).ofs = 0xC0000000 := by decide
/-- R374, the first tick of the rule's example. -/
theorem test_lfotick_example :
    (run (.lfotick 1 0)
      (ready.setLfo 0 { LfoUnit.reset with inc := 0x40000000, wave := .sawtooth })).reg 1 = 0xBF000000 := by
  decide
/-- R374, R375: a wrap steps the generator, and the random waveform shows the new value. -/
theorem test_lfotick_wrap :
    (run (.lfotick 1 0)
      (ready.setLfo 0 { LfoUnit.reset with inc := 0x80000000, phase := 0x80000000, wave := .random })).reg 1 =
        0x39040420 := by decide
/-- R376, the rule's example. -/
theorem test_lfoseed_example :
    ((run (.lfoseed 0 0) (with2 0 0)).lfoAt 0).seed = 1 ∧ (run (.lfoseed 0 0) (with2 0 0)).status = flagCLAMP := by
  decide
/-- R377: PHASE without OFS. -/
theorem test_lfordph :
    (run (.lfordph 2 0) (ready.setLfo 0 { LfoUnit.reset with phase := 0x12345678, ofs := 1 })).reg 2 = 0x12345678 := by
  decide
/-- R378: the generator restarts from SEED. -/
theorem test_lforst :
    ((run (.lforst 0) (ready.setLfo 0 { LfoUnit.reset with seed := 9, rng := 77, phase := 5 })).lfoAt 0).rng = 9 := by
  decide
/-- R411, the rule's example. -/
theorem test_cvcfg_example :
    ((run (.cvcfg 0 0) (with2 100 0)).cvAt 0).blk = 128 ∧ (run (.cvcfg 0 0) (with2 100 0)).status = flagCLAMP := by
  decide
/-- R412, the rule's example. -/
theorem test_cvpush_example : ((run (.cvpush 1 0) (with2 0 0x3F800000)).cvAt 0).stg = [0x3F800000] := by decide
/-- R413, the rule's example, and an empty staging buffer. -/
theorem test_cvload_example :
    (run (.cvload 2 0) (ready.setCv 0 { CvUnit.reset with stg := [0x3F800000] })).reg 2 = 1 := by decide
theorem test_cvload_empty :
    (run (.cvload 2 0) (ready.setReg 2 7)).reg 2 = 0 ∧ (run (.cvload 2 0) ready).status = flagFMT := by decide
/-- R415: the output is read before the completed block's result is written, which then holds the input (R425). -/
theorem test_cvproc_completes_block :
    (run (.cvproc 1 0 0) ((with2 0x3F800000 7).setCv 0 { CvUnit.reset with blk := 32, n := 31 })).reg 1 = 0 ∧
    ((run (.cvproc 1 0 0) ((with2 0x3F800000 7).setCv 0 { CvUnit.reset with blk := 32, n := 31 })).cvAt 0).outb =
      [(31, 0x3F800000)] := by decide
/-- R422, the rule's example. -/
theorem test_cvlat_example : (run (.cvlat 5 0) ready).reg 5 = 256 := by decide
/-- R423. -/
theorem test_cvunld :
    ((run (.cvunld 0)
      (ready.setCv 0 { CvUnit.reset with loaded := true, ir := [0x3F000000] })).cvAt 0).loaded = false := by
  decide
/-- R424. -/
theorem test_cvclr :
    ((run (.cvclr 0) (ready.setCv 0 { CvUnit.reset with n := 3, outb := [(1, 5)] })).cvAt 0).outb = [] := by
  decide
/-- R461, the rule's example. -/
theorem test_pgset_example : ((run (.pgset 0 5) (with2 0x447A0000 0)).pgAt 5).pval = 0x447A0000 := by decide
/-- R462: the first check returns 1; a check of an unchanged value returns 0. -/
theorem test_pgchk :
    (run (.pgchk 1 5) ready).reg 1 = 1 ∧ (run (.pgchk 1 5) (ready.setPg 5 ⟨3, 3, true⟩)).reg 1 = 0 := by decide
/-- R463. -/
theorem test_pgget : (run (.pgget 2 5) (ready.setPg 5 ⟨0x447A0000, 0, false⟩)).reg 2 = 0x447A0000 := by decide

/-! ## Bus -/

/-- The next state of a step that has one. -/
def stepped (s : State) : State :=
  match step s with
  | .next t => t
  | .fault _ => s
  | .refused _ => s

/-- R59, R52: the placed word runs as the next step, and the command index advances. -/
theorem test_step_runs_placed_word :
    (stepped ((with2 0x3FC00000 0x40100000).withFetchWord 32 0x0D020000)).reg 2 = 0x40700000 ∧
    (stepped (ready.withFetchWord 32 0)).ci = 1 := by decide
/-- R51, R54: ID reads 0x4A465832. -/
theorem test_step_reads_id :
    (stepped { State.reset with pending := [.read .word 0x00] }).seen = [⟨some 0x4A465832, false⟩] := by decide
/-- R122, R486: a byte read returns 0 and sets BUS, which raises IRQ where it is enabled. -/
theorem test_step_partial_read :
    (stepped { State.reset with pending := [.read .byte 0x00], irqen := flagBUS }).seen = [⟨some 0, true⟩] := by
  decide
/-- R56: a written 1 clears its STATUS bit, a written 0 leaves it. -/
theorem test_step_status_w1c :
    (stepped { State.reset with pending := [.write .word 0x24 0x01], status := 0x03 }).status = 0x02 := by
  decide
/-- R55: a CTRL write with bit 0 set resets; one with bit 0 clear has no effect. -/
theorem test_step_ctrl :
    (stepped { ready with pending := [.write .word 0x20 0x01] }).prepared = false ∧
    (stepped { ready with pending := [.write .word 0x20 0x02] }).prepared = true := by decide

/-! ## A core with other parameters (R6) -/

/-- One unit of each family but two envelopes, four channels, and the smallest memories the ranges of R6 allow. -/
def small : Params where
  nbq := 1
  nch := 4
  ndl := 1
  nenv := 2
  nlfo := 1
  ncv := 1
  npg := 1
  dmemWords := 16
  irMaxLen := 1
  rmsWinMax := 1
  convTolNum := 1
  convTolDen := 2

theorem small_legal : small.Legal where
  nbq := by decide
  nch := by decide
  ndl := by decide
  nenv := by decide
  nlfo := by decide
  ncv := by decide
  npg := by decide
  dmemWords := by decide
  irMaxLen := by decide
  rmsWinMax := by decide
  convTol := by decide

/-- R54: the capability registers report the parameters. -/
theorem test_small_capabilities :
    ((State.resetOf small).readReg .caps0, (State.resetOf small).readReg .caps1) =
      ((0x01020101 : Word), (0x00040101 : Word)) ∧
    (State.resetOf small).readReg .dmemsz = 16 := by decide
/-- R164 (d), (e): channel 3 exists, unit 1 does not. -/
theorem test_small_ranges :
    decode small 0x24803000 = .ok (.bqproc 1 0 3 0) ∧ decode small 0x28000001 = .error .unitRange := by decide
/-- R412, R294: the staging buffer holds one word, and a region ends at DMEM_WORDS. -/
theorem test_small_resources :
    let s := { State.resetOf small with prepared := true }
    (run (.cvpush 0 0) (run (.cvpush 0 0) s)).status = flagRSRC ∧
    (run (.dlcfg 0 1 0) ((s.setReg 0 10).setReg 1 9)).dlAt 0 = ⟨10, 6, 0⟩ := by decide

/-! ## Witnesses: a state and operands that meet the hypotheses of each statement -/

theorem ready_legal : ready.params.Legal := default_legal

theorem reset_bq_inv : BqUnit.reset.Inv 2 where
  z1 := fun z hz => by rw [(Vector.mem_replicate.mp hz).2]; rfl
  z2 := fun z hz => by rw [(Vector.mem_replicate.mp hz).2]; rfl
  absent := by decide
  coefs := fun k => by cases k <;> decide
  undesigned := by decide

theorem ready_inv : ready.Inv where
  params := ready_legal
  rate := by decide
  maxblk := by decide
  bq := fun b hb => by rw [(List.mem_replicate.mp hb).2]; exact reset_bq_inv
  dl := by
    intro d hd
    obtain ⟨i, hi, rfl⟩ := List.mem_map.mp hd
    have h8 : i < 8 := List.mem_range.mp hi
    exact ⟨show 3 ≤ 131072 by decide, show i * 131072 + 131072 ≤ 1048576 by omega, show 0 < 131072 by decide⟩
  dmemWf := Mem.nil_wf
  dmemFinite := Mem.nil_finite
  dmemBelow := Mem.nil_below _
  env := by
    intro e he
    have h := (List.mem_replicate.mp he).2
    subst h
    exact ⟨by decide, by decide, Mem.nil_wf, Mem.nil_finite, Mem.nil_below _, by decide, by decide, by decide⟩
  envPairs := by
    intro _ e he
    have h := (List.mem_replicate.mp he).2
    subst h
    exact ⟨⟨by decide, by decide, by decide⟩, ⟨by decide, by decide, by decide⟩⟩
  lfo := by
    intro l hl
    have h := (List.mem_replicate.mp hl).2
    subst h
    exact ⟨by decide, by decide, by decide, by decide⟩
  cv := by
    intro c hc
    have h := (List.mem_replicate.mp hc).2
    subst h
    exact ⟨by decide, by decide, by decide, Mem.nil_wf, Mem.nil_finite, Mem.nil_below _,
      fun i hi => absurd hi (Nat.not_lt_zero i), Mem.nil_wf, Mem.nil_finite, Mem.nil_below _,
      fun x hx => by simp [CvUnit.reset] at hx, fun h hh => by simp [CvUnit.reset] at hh, by decide,
      by decide, by decide⟩

theorem witness_SumsAreCorrectlyRounded :
    (isFinite 0x7F7FFFFF = true ∧ isFinite 0x72FFFFFF = true ∧ isFinite 0x73000000 = true) ∧
    |value 0x7F7FFFFF + value 0x72FFFFFF| < overflowBound ∧ overflowBound ≤ |value 0x7F7FFFFF + value 0x73000000| ∧
    value 0x3F800000 + value 0xBF800000 = 0 ∧ |value 0x7F7FFFFF - value 0xF2FFFFFF| < overflowBound ∧
    overflowBound ≤ |value 0x7F7FFFFF - value 0xF3000000| ∧ value 0x80000000 - value 0x00000000 = 0 := by
  decide +kernel
theorem witness_ProductsAreCorrectlyRounded :
    (isFinite 0x7F7FFFFF = true ∧ isFinite 0x5F918E00 = true ∧ isFinite 0x5F612000 = true) ∧
    |value 0x7F7FFFFF * value 0x3F800000| < overflowBound ∧
    overflowBound ≤ |value 0x5F918E00 * value 0x5F612000| := by
  decide +kernel
theorem witness_QuotientsAreCorrectlyRounded :
    (isFinite 0x7F7FFFFF = true ∧ isZero 0x3F800000 = false ∧ isZero 0x3F7FFFFF = false) ∧
    |value 0x7F7FFFFF / value 0x3F800000| < overflowBound ∧ overflowBound ≤ |value 0x7F7FFFFF / value 0x3F7FFFFF| ∧
    isZero 0x80000000 = true ∧ isZero 0x3F800000 = false ∧ isZero 0x00000000 = true := by
  decide +kernel
theorem witness_SquareRootsAreCorrectlyRounded :
    (isFinite 0x00000001 = true ∧ isZero 0x00000001 = false ∧ (0x00000001 : Word).sign = false) ∧
    (isFinite 0x3F800000 = true ∧ (0x3F800000 : Word).sign = false ∧ value (fsqrt 0x00000001) < value 0x3F800000) ∧
    (isFinite 0x00000000 = true ∧ (0x00000000 : Word).sign = false ∧ value 0x00000000 < value (fsqrt 0x00000001)) ∧
    isZero 0x80000000 = true ∧
    (isNaN 0xFF800000 = false ∧ isZero 0xFF800000 = false ∧ (0xFF800000 : Word).sign = true) := by
  decide +kernel
theorem witness_ConversionsRoundToNearestEven :
    (0 < 2 ∧ 2 * ((3 : Int) - rte 3 2 * (2 : Nat)).natAbs = 2) ∧ ((16777217 : Nat) : ℚ) / 2 ^ 149 < overflowBound ∧
    |((-3 : Int) : ℚ) / 2 ^ 0| < overflowBound ∧ 2 ^ 24 ≤ 2 ^ 24 := by
  decide +kernel
theorem witness_ParameterClampFollowsItsRow :
    (isFinite (rowFREQ 0x447A0000).hi = true ∧ value (rowFREQ 0x447A0000).hi < 1000) ∧
    (isFinite (rowFREQ 0x473B8000).hi = true ∧ 1000 ≤ value (rowFREQ 0x473B8000).hi) ∧
    (fLe rowFS.lo 0x45FA0000 = true ∧ fLe 0x45FA0000 rowFS.hi = true) ∧
    (fLe rowFS.lo 0x48BB8000 = true ∧ fLe 0x48BB8000 rowFS.hi = true) ∧
    isNaN 0x7FC00000 = true ∧
    (isFinite 0x45F9FFFF = true ∧ value 0x45F9FFFF < value rowFS.lo) ∧
    (isFinite 0x48BB8001 = true ∧ value rowFS.hi < value 0x48BB8001) ∧
    (value rowFS.lo ≤ value 0x45FA0000 ∧ value 0x45FA0000 ≤ value rowFS.hi) ∧
    (value rowFS.lo ≤ value 0x48BB8000 ∧ value 0x48BB8000 ≤ value rowFS.hi) := by
  decide +kernel
theorem witness_IntegerPrimitivesFollowTheirRule :
    (1 : Word) ≠ 0 ∧ ((nearestBlock 48 : Int) - 48).natAbs = ((32 : Int) - 48).natAbs := by decide
theorem witness_DecodeInvertsEncode :
    decoded 0xC900003F = .ok (.pgget 2 63) ∧ (Instr.pgget 2 63).wf Params.default = true ∧ encode (.pgget 2 63) = 0xC900003F := by
  decide
theorem witness_DecodingFollowsTheOpcodeMap :
    (⟨"PGGET", 0xC8000000, 0xFC7FFF00, 16, 4, 64⟩ : OpRow) ∈ opTable Params.default ∧
    decoded 0xC900003F = .ok (.pgget 2 63) ∧ (Instr.pgget 2 63).mnemonic = "PGGET" := by decide

/-- A state with the given accesses to come. -/
def withAccess (accesses : List BusAccess) (s : State) : State := { s with pending := accesses }

theorem witness_CmdWriteRunsTheDecodedCommand :
    ((withAccess [.write .word 0x30 0x0D020000] ready).pending = .write .word 0x30 0x0D020000 :: [] ∧
      decode ready.params 0x0D020000 = .ok (.fadd 2 0 1)) ∧
    (withAccess [.read .word 0x30] ready).pending = .read .word 0x30 :: [] ∧ State.reset.pending = [] := by
  decide
theorem witness_RefusedWordOnlyMarks :
    ((withAccess [.write .word 0x30 0x30000000] ready).pending = .write .word 0x30 0x30000000 :: [] ∧
      decode ready.params 0x30000000 = .error .opcode) ∧
    ((withAccess [.write .word 0x30 0x0D020000] State.reset).pending = .write .word 0x30 0x0D020000 :: [] ∧
      decode State.reset.params 0x0D020000 = .ok (.fadd 2 0 1) ∧ State.reset.prepared = false ∧
      (Instr.fadd 2 0 1) ≠ .nop ∧ (Instr.fadd 2 0 1) ≠ .reset ∧ ∀ ra rb, (Instr.fadd 2 0 1) ≠ .prepare ra rb) := by
  refine ⟨by decide, by decide, by decide, by decide, by decide, by decide, nofun⟩
theorem witness_PartialAccessOnlySetsBus :
    (AccessWidth.byte ≠ .word ∧ (withAccess [.read .byte 0x00] ready).pending = .read .byte 0x00 :: []) ∧
    ((0xFF : Fin 256).val % 4 ≠ 0 ∧
      (withAccess [.write .word 0xFF 7] ready).pending = .write .word 0xFF 7 :: []) := by decide
theorem witness_WordAccessFollowsTheRegisterMap :
    ((0xFC : Fin 256).val % 4 = 0 ∧ (withAccess [.read .word 0xFC] ready).pending = .read .word 0xFC :: []) ∧
    ((0x5C : Fin 256).val % 4 = 0 ∧ (0x5C : Fin 256).val ≠ 0x30 ∧
      (withAccess [.write .word 0x5C 7] ready).pending = .write .word 0x5C 7 :: []) ∧ 6 < 7 := by decide
theorem witness_InterruptLineFollowsStatusAndEnables :
    (withAccess [.read .byte 0x00] ready).pending ≠ [] ∧
    step (withAccess [.read .byte 0x00] ready) = .next (stepped (withAccess [.read .byte 0x00] ready)) ∧
    ({ ready with status := flagBUS, irqen := flagBUS } : State).irq = true :=
  ⟨by decide, rfl, by decide⟩

/-- A state in which STATUS.ILL and STATUS.BUS are set and the host's next access is a word write. -/
def marked (offset : Fin 256) (v : Word) : State :=
  { ready with status := flagILL ||| flagBUS, pending := [.write .word offset v] }

theorem witness_StatusBitsAreClearedOnlyByTheHost :
    (step (marked 0x24 0x40) = .next (stepped (marked 0x24 0x40)) ∧
      (marked 0x24 0x40).status.getLsbD 6 = true ∧ (stepped (marked 0x24 0x40)).status.getLsbD 6 = false) ∧
    (step (marked 0x20 1) = .next (stepped (marked 0x20 1)) ∧
      (marked 0x20 1).status.getLsbD 0 = true ∧ (stepped (marked 0x20 1)).status.getLsbD 0 = false) :=
  ⟨⟨rfl, by decide, by decide⟩, rfl, by decide, by decide⟩
theorem witness_CommandsSetOnlyTheirOwnFlags :
    (Instr.fadd 2 0 1).wf Params.default = true ∧ ready.prepared = true ∧
    exec (.fadd 2 0 1) ready = .next (run (.fadd 2 0 1) ready) ∧ ready.NoError :=
  ⟨by decide, rfl, rfl, by unfold State.NoError; decide⟩
theorem witness_CommandsWriteOnlyWhatTheyOwn :
    exec (.bqrdc 2 .b0 15) ready = .next (run (.bqrdc 2 .b0 15) ready) ∧
    (∀ ra rb, (Instr.bqrdc 2 .b0 15) ≠ .prepare ra rb) ∧ (Instr.bqrdc 2 .b0 15).dest ≠ some 7 ∧
    Bank.bq ∉ (Instr.bqrdc 2 .b0 15).banks ∧ (Instr.bqrdc 2 .b0 15).unit ready.params = some (15, 16) :=
  ⟨rfl, nofun, by decide, by decide, by decide⟩
theorem ready_atRate : ready.AtRate := by
  refine ⟨fun _ b hb hd => ?_, fun _ e he => ?_⟩
  · have h := (List.mem_replicate.mp hb).2
    subst h
    simp [BqUnit.reset] at hd
  · have h := (List.mem_replicate.mp he).2
    subst h
    exact ⟨rfl, rfl⟩
theorem witness_StepsKeepTheInvariants :
    ready.Inv ∧ ready.AtRate ∧ step (marked 0x24 0x40) = .next (stepped (marked 0x24 0x40)) :=
  ⟨ready_inv, ready_atRate, rfl⟩
theorem witness_NoStepIsEverStuck : ready.Inv := ready_inv

/-! The premises every command statement shares: a unit past the last one, a core that is not prepared, and the last
units of a prepared one. -/

theorem witness_ObeysFrame :
    (Instr.bqclr 16).wf Params.default = false ∧ ((Instr.bqclr 15).wf Params.default = true ∧ State.reset.prepared = false) := by decide
theorem witness_Completes :
    ready.prepared = true ∧ (15 : UnitIx).val < ready.bq.length ∧ (1 : ChanIx).val < ready.limits.nch ∧
    (7 : UnitIx).val < ready.dl.length ∧ (3 : UnitIx).val < ready.env.length ∧ (3 : UnitIx).val < ready.lfo.length ∧
    (1 : UnitIx).val < ready.cv.length ∧ (63 : UnitIx).val < ready.pg.length := by decide
/-- PREPARE at 8000.0 Hz with a maxBlock of 0, and a last LFO unit whose stored 5000.0 Hz is past half the new rate. -/
theorem witness_PrepareRecomputesAndClears :
    let s := (with2 0x45FA0000 0).setLfo 3 { LfoUnit.reset with rfreq := 0x459C4000 }
    min (max (s.reg 1).toNat 1) 65536 ≠ (s.reg 1).toNat ∧ s.lfoAt 3 ∈ s.lfo ∧
    (lfoInc (clampP (s.reg 0) rowFS).1 (s.lfoAt 3).rfreq).2.getLsbD 2 = true := by decide
theorem witness_GlueArithmeticCompletes : (with2 0x7F7FFFFF 0x7F7FFFFF).prepared = true := by decide
theorem witness_SoftClipIsBoundedAndContracts :
    (with2 0x7F800000 0).prepared = true ∧ isFinite ((with2 0x7F800000 0).reg 0) = false := by decide
theorem witness_ProcessingRepeatsAfterReset :
    exec (.prepare 0 1) ready = .next (run (.prepare 0 1) ready) ∧ ready.resetDynamic = ready ∧
    (∀ op ∈ [HostOp.load 0 0x3F800000, .command (.pgchk 0 0)], ∀ i, op = .command i → i.configures = false) ∧
    [HostOp.load 0 0x3F800000] <+: [HostOp.load 0 0x3F800000, .command (.pgchk 0 0)] ∧
    runOps [.load 0 0x3F800000, .command (.pgchk 0 0)] ready = .next (run (.pgchk 0 0) (ready.setReg 0 0x3F800000)) ∧
    runOps [.load 0 0x3F800000] ready = .next (ready.setReg 0 0x3F800000) := by
  refine ⟨rfl, by decide +kernel, ?_, ⟨_, rfl⟩, rfl, rfl⟩
  intro op hop i hi
  subst hi
  simp at hop
  subst hop
  rfl

/-! ### Biquad -/

theorem witness_BiquadDesignRunsOnlyOnChange :
    let s := (with2 0x447A0000 0x3F3504F3).setBq 15 { BqUnit.reset with designed := true, cfs := 0x473B8000 }
    let b := s.bqAt 15
    (b.designed = true ∧ b.type = .lowpass ∧ b.rf = s.reg 0 ∧ b.rq = s.reg 1 ∧ b.rg = s.reg 2 ∧ b.cfs = s.sr) ∧
    ¬((ready.bqAt 15).designed = true) := by decide
theorem witness_ZeroGainDesignIsUnity :
    let b := { BqUnit.reset with type := .highShelf, rg := 0x80000000 }
    b.type = .highShelf ∧ isZero (clampP b.rg rowGAIN).1 = true := by decide
theorem witness_UnityBiquadReturnsItsInput :
    let b := { BqUnit.reset with b1 := 0xBF800000, a1 := 0xBF800000, b2 := 0x3F000000, a2 := 0x3F000000 }
    b.b0 = 0x3F800000 ∧ b.b1 = b.a1 ∧ b.b2 = b.a2 ∧ isFinite b.a1 = true ∧ isFinite b.a2 = true ∧
    b.z1.get 1 = 0 ∧ b.z2.get 1 = 0 ∧
    (isFinite 0x7F7FFFFF = true ∧ isFinite (fmul b.a1 0x7F7FFFFF) = true ∧ isFinite (fmul b.a2 0x7F7FFFFF) = true ∧
      (0x7F7FFFFF : Word) ≠ 0x80000000) ∧
    (isFinite 0x80000000 = true ∧ isFinite (fmul b.a1 0x80000000) = true ∧ isFinite (fmul b.a2 0x80000000) = true) := by
  decide
/-- The three values of a sample that BQPROC's recovery branch looks at (R251). -/
def bqGood (b : BqUnit) (x : Word) : Bool :=
  let y := fadd (fmul b.b0 x) 0
  isFinite y && isFinite (fsub (fadd (fmul b.b1 x) 0) (fmul b.a1 y)) && isFinite (fsub (fmul b.b2 x) (fmul b.a2 y))
theorem witness_BiquadProcessesOneSample :
    bqGood BqUnit.reset 0x7F7FFFFF = true ∧
    bqGood { BqUnit.reset with b0 := 0x40000000 } 0x7F7FFFFF = false := by decide
theorem witness_CoefficientsChangeOnlyByDesign :
    exec (.bqclr 15) ready = .next (run (.bqclr 15) ready) ∧ (∀ ra rb, (Instr.bqclr 15) ≠ .prepare ra rb) ∧
    ∀ rd ra rb rc ty, (Instr.bqclr 15) ≠ .bqdes rd ra rb rc ty 15 :=
  ⟨rfl, nofun, nofun⟩

/-! ### Delay -/

theorem reset_delay_inv : (DlUnit.reset Params.default 7).Inv 1048576 := ⟨by decide, by decide, by decide⟩
theorem witness_DelayOperandIsClampedAndSplit :
    1048576 ≤ 2 ^ 24 ∧ (DlUnit.reset Params.default 7).Inv 1048576 ∧
    (DlUnit.reset Params.default 7).cap - 3 = 131069 ∧ isNaN 0x7FC00000 = true ∧
    (isFinite 0x80000001 = true ∧ value 0x80000001 < 0) ∧
    (isFinite 0x47FFFE81 = true ∧ ((131069 : Nat) : ℚ) < value 0x47FFFE81) ∧
    (0 ≤ value 0x80000000 ∧ value 0x80000000 ≤ ((131069 : Nat) : ℚ)) ∧
    (0 ≤ value 0x47FFFE80 ∧ value 0x47FFFE80 ≤ ((131069 : Nat) : ℚ)) :=
  ⟨by decide, reset_delay_inv, by decide +kernel⟩
theorem witness_DelayConfigurationZeroesItsRegion : (ready.dlAt 7).Inv ready.limits.dmemWords := ⟨by decide, by decide, by decide⟩
theorem witness_DelayWriteStoresOneWord : (ready.dlAt 7).Inv ready.limits.dmemWords ∧ ready.dmem.wf :=
  ⟨⟨by decide, by decide, by decide⟩, Mem.nil_wf⟩
theorem witness_DelayWriteShiftsTheTaps :
    (ready.dlAt 7).Inv ready.limits.dmemWords ∧ ready.dmem.wf ∧ exec (.dlwr 0 7) ready = .next (run (.dlwr 0 7) ready) ∧
    131070 + 1 < (ready.dlAt 7).cap :=
  ⟨⟨by decide, by decide, by decide⟩, Mem.nil_wf, rfl, by decide⟩
theorem witness_DelayReadsComplete : (ready.dlAt 7).Inv ready.limits.dmemWords := ⟨by decide, by decide, by decide⟩
theorem witness_IntegerDelayReadsExactly :
    ready.params.Legal ∧ (ready.dlAt 7).Inv ready.limits.dmemWords ∧ ready.dmem.Finite ∧ (131069 ≤ (ready.dlAt 7).cap - 3 ∧ 0x47FFFE80 = toF32 131069) ∧
    (with2 0x47FFFE80 0).reg 0 = 0x47FFFE80 ∧ (with2 0x80000000 0).reg 0 = 0x80000000 :=
  ⟨ready_legal, ⟨by decide, by decide, by decide⟩, Mem.nil_finite, by decide, by decide, by decide⟩

/-! ### Envelope and LFO -/

theorem witness_EnvelopeCoefficientsLieInRange :
    (fLe rowFS.lo 0x45FA0000 = true ∧ fLe 0x45FA0000 rowFS.hi = true) ∧
    fLe rowFS.lo 0x48BB8000 = true ∧ fLe 0x48BB8000 rowFS.hi = true := by decide
/-- At 384000.0 Hz a window of 1000.0 ms passes RMS_WIN_MAX, and half the rate is the largest increment. -/
theorem witness_RateDependentCountsAreRounded :
    (fLe rowFS.lo 0x48BB8000 = true ∧ fLe 0x48BB8000 rowFS.hi = true) ∧
    winSamples 32768 0x48BB8000 0x447A0000 = (32768, flagRSRC) ∧ lfoInc 0x48BB8000 0x483B8000 = (0x80000000, 0) := by
  decide
theorem witness_EnvelopeTimesRecomputeOnlyOnChange :
    let s := with2 0x41200000 0x42C80000
    ((s.envAt 3).rta = s.reg 0 ∧ (s.envAt 3).cfsa = s.sr) ∧ ((s.envAt 3).rtr = s.reg 1 ∧ (s.envAt 3).cfsr = s.sr) ∧
    ¬((s.envAt 3).rta = s.reg 1) ∧ ¬((s.envAt 3).rtr = s.reg 0) := by decide
/-- Peak mode; RMS mode; RMS mode with a sum that overflows. -/
theorem witness_EnvelopeProcessesOneSample :
    let rms := { EnvUnit.reset with det := .rms }
    let full := { EnvUnit.reset with det := .rms, sum := 0x7F7FFFFF }
    let sum := fun (v : EnvUnit) (x : Word) => fsub (fadd v.sum (sanitize (fmul x x)).1) (v.ring.read v.ridx)
    EnvUnit.reset.det = .peak ∧ (rms.det = .rms ∧ isFinite (sum rms 0x3F800000) = true) ∧
    (full.det = .rms ∧ isFinite (sum full 0x5F000000) = false) := by decide
/-- `ready` with an instant attack on every unit and -2.0 in data register 0. -/
def instantAttack : State :=
  { with2 0xC0000000 0 with
    env := List.replicate 4 { ready.envAt 3 with pol := .instantAttack } }
theorem instantAttack_inv : instantAttack.Inv :=
  { ready_inv with
    env := by
      intro e he
      have h := (List.mem_replicate.mp he).2
      subst h
      exact ⟨by decide, by decide, Mem.nil_wf, Mem.nil_finite, Mem.nil_below _, by decide, by decide, by decide⟩
    envPairs := by
      intro _ e he
      have h := (List.mem_replicate.mp he).2
      subst h
      exact ⟨⟨by decide, by decide, by decide⟩, ⟨by decide, by decide, by decide⟩⟩ }
theorem witness_EnvelopeLevelIsNeverNegative :
    instantAttack.Inv ∧ instantAttack.prepared = true ∧ (instantAttack.envAt 3).det = .peak ∧
    (instantAttack.envAt 3).pol = .instantAttack ∧ isFinite (instantAttack.reg 0) = true ∧
    value (instantAttack.envAt 3).level < |value (instantAttack.reg 0)| :=
  ⟨instantAttack_inv, by decide, by decide, by decide, by decide, by decide +kernel⟩
theorem witness_DecibelConversionIsFloored :
    value 0x3727C5AC < value (sanitize ((with2 0x3727C5AD 0x3727C5AC).reg 0)).1 ∧
    value (sanitize ((with2 0x3727C5AD 0x3727C5AC).reg 1)).1 ≤ value 0x3727C5AC := by decide +kernel
theorem witness_LfoConfigurationCompletes :
    isFinite ((with2 0x7F800000 0x7F7FFFFF).reg 0) = false ∧ isFinite ((with2 0x7F800000 0x7F7FFFFF).reg 1) = true := by
  decide
theorem witness_LfoTickAdvancesThenEvaluates :
    let below := { LfoUnit.reset with phase := 0xFFFFFFFE, inc := 1 }
    let wraps := { LfoUnit.reset with phase := 0xFFFFFFFF, inc := 1 }
    below.phase.toNat + below.inc.toNat < 2 ^ 32 ∧ 2 ^ 32 ≤ wraps.phase.toNat + wraps.inc.toNat := by decide
theorem witness_PhaseAdvancesExactly :
    exec (.lfotick 1 0) ready = .next (run (.lfotick 1 0) ready) ∧ (Instr.lfotick 1 0).global = false ∧
    (∀ rd, (Instr.lfotick 1 0) ≠ .lfotick rd 3) ∧ (Instr.lfotick 1 0) ≠ .lforst 3 :=
  ⟨rfl, by decide, by decide, by decide⟩
theorem witness_WaveformsStayInRange :
    fLe (fabs 0xBF800000) f1 = true ∧ fLe (fabs 0x3F800000) f1 = true ∧ 1023 < 1024 := by decide

/-! ### Convolver -/

theorem witness_ConvolverLoadingCompletes :
    CvUnit.reset.stg.length < ready.limits.irMaxLen ∧
    ready.limits.irMaxLen ≤ (List.replicate ready.limits.irMaxLen (0 : Word)).length ∧
    (let stg : List Word := [0x7F7FFFFF]; stg ≠ [] ∧ ∀ h ∈ stg, isFinite h = true) ∧
    (let stg : List Word := [0x7F800000]; ¬∀ h ∈ stg, isFinite h = true) ∧ CvUnit.reset.stg = [] := by
  refine ⟨by decide, (List.length_replicate ..).ge, ⟨List.cons_ne_nil _ _, ?_⟩, fun h => ?_, rfl⟩
  · exact List.forall_mem_singleton.mpr rfl
  · exact absurd (List.forall_mem_singleton.mp h) (by decide)
theorem witness_ConvolverProcessesOneSample :
    CvUnit.reset.n + 1 ≠ CvUnit.reset.blk ∧
    (let c := { CvUnit.reset with blk := 32, n := 31 }; c.n + 1 = c.blk) := by decide
/-- A unit of 32-sample blocks that waits for the last sample of its first block. -/
def lastOfBlock (loaded : Bool) (ir : List Word) : CvUnit :=
  { CvUnit.reset with blk := 32, n := 31, hist := List.replicate 31 0, loaded := loaded, ir := ir }
theorem lastOfBlock_inv (loaded : Bool) (ir : List Word) (h : ∀ v ∈ ir, isFinite v = true)
    (hl : ir.length ≤ 131072) (hne : loaded = true → ir ≠ []) : (lastOfBlock loaded ir).Inv 131072 where
  blk := show 32 ∈ blockSizes by decide
  n := show 31 < 32 by decide
  position := by simp [lastOfBlock]
  inbWf := Mem.nil_wf
  inbFinite := Mem.nil_finite
  inbBelow := Mem.nil_below _
  inbHist := by
    intro i _
    change (0 : Word) = (List.replicate 31 0).getD (31 - 1 - i) 0
    rw [List.getD_eq_getElem?_getD, List.getElem?_replicate]
    split <;> rfl
  outbWf := Mem.nil_wf
  outbFinite := Mem.nil_finite
  outbBelow := Mem.nil_below _
  hist := fun x hx => by rw [(List.mem_replicate.mp hx).2]; rfl
  ir := h
  irLength := hl
  irLoaded := hne
  stgLength := Nat.zero_le _
theorem witness_BlockOutputIsWithinTolerance :
    let p := Params.default.toLimits
    0 < p.convTolDen ∧ isFinite 0x3F800000 = true ∧
    ((lastOfBlock false []).Inv p.irMaxLen ∧ (lastOfBlock false []).n + 1 = (lastOfBlock false []).blk) ∧
    ((lastOfBlock true [0x3F800000, 0x3F000000]).Inv p.irMaxLen ∧
      2 ≤ (lastOfBlock true [0x3F800000, 0x3F000000]).ir.length) :=
  ⟨by decide, rfl, ⟨lastOfBlock_inv _ _ (by simp) (Nat.zero_le _) (by simp), rfl⟩,
    lastOfBlock_inv _ _ (List.forall_mem_cons.mpr ⟨rfl, List.forall_mem_singleton.mpr rfl⟩) (by decide) (by simp),
    le_refl 2⟩
theorem witness_SingleTapConvolverDelaysByOneBlock :
    CvUnit.reset.Cleared ∧ 0 < CvUnit.reset.blk ∧ CvUnit.reset.eh = [0x3F800000] ∧
    ∀ x ∈ [(0x80000000 : Word), 0x7F7FFFFF], isFinite x = true :=
  ⟨⟨rfl, rfl, rfl, rfl⟩, by decide, by decide, List.forall_mem_cons.mpr ⟨rfl, List.forall_mem_singleton.mpr rfl⟩⟩
/-- Position 0 of the first block, and two inputs that differ in the second block only, seen at its end. -/
theorem witness_ConvolverOutputLagsItsInput :
    CvUnit.reset.Cleared ∧ 0 < CvUnit.reset.blk ∧
    (0 < CvUnit.reset.blk ∧ 0 < [(1 : Word)].length ∧
      [(1 : Word)].take (0 / 256 * 256) = [(2 : Word)].take (0 / 256 * 256)) ∧
    ((List.replicate 511 (0 : Word) ++ [1]).take (511 / 256 * 256) =
      (List.replicate 511 (0 : Word) ++ [2]).take (511 / 256 * 256)) := by
  refine ⟨⟨rfl, rfl, rfl, rfl⟩, by decide, by decide, ?_⟩
  rw [List.take_append_of_le_length, List.take_append_of_le_length] <;> rw [List.length_replicate] <;> norm_num

/-! ### Parameter gate -/

theorem witness_GateReportsChangesOnly :
    let t1 := run (.pgchk 1 63) ready
    let t2 := run (.pgset 0 63) t1
    (∀ op ∈ [HostOp.command (.pgset 0 63)], ∀ i, op = .command i →
      i.global = false ∧ ∀ r, i ≠ .pgchk r 63) ∧
    exec (.pgchk 1 63) ready = .next t1 ∧ runOps [.command (.pgset 0 63)] t1 = .next t2 ∧
    exec (.pgchk 2 63) t2 = .next (run (.pgchk 2 63) t2) := by
  refine ⟨?_, rfl, rfl, rfl⟩
  intro op hop i hi
  subst hi
  simp at hop
  subst hop
  exact ⟨rfl, fun _ h => nomatch h⟩

end Sys2Proof.Tests
end

namespace Sys2Proof.Machine

/-! ### Order on words: bits, units and exact values (R8) -/

/-- A finite word of sign +. -/
def FiniteNonneg (w : Word) : Prop := isFinite w = true ∧ w.sign = false

theorem finiteNonneg_iff_toNat_lt {w : Word} : FiniteNonneg w ↔ w.toNat < 0x7F800000 := by
  have := w.isLt
  simp only [FiniteNonneg, isFinite, expField, bne_iff_ne, sign_eq, decide_eq_false_iff_not]
  omega

theorem eq_posInf {w : Word} (hn : isNaN w = false) (hf : isFinite w = false) (hs : w.sign = false) :
    w = 0x7F800000 := by
  have := w.isLt
  refine BitVec.eq_of_toNat_eq (y := 0x7F800000) ?_
  simp only [isNaN, isFinite, expField, fracField, sign_eq, bne_eq_false_iff_eq, Bool.and_eq_false_iff,
    beq_eq_false_iff_ne, decide_eq_false_iff_not] at hn hf hs
  change _ = 0x7F800000
  omega

theorem toNat_mod_of_sign_false {w : Word} (h : w.sign = false) : w.toNat % 2 ^ 31 = w.toNat := by
  rw [sign_eq, decide_eq_false_iff_not] at h
  exact Nat.mod_eq_of_lt (by omega)

theorem sunits_of_sign_false {w : Word} (h : w.sign = false) : sunits w = units w := by simp [sunits, h]

theorem abs_sunits (w : Word) : |sunits w| = units w := by unfold sunits; split <;> simp

/-- Finite magnitudes are ordered as their bits 30:0 are. -/
theorem units_le_units_iff {a b : Word} (ha : isFinite a = true) (hb : isFinite b = true) :
    units a ≤ units b ↔ a.toNat % 2 ^ 31 ≤ b.toNat % 2 ^ 31 := by
  have bits_le {x y : Word} (hx : isFinite x = true) (hy : isFinite y = true) (h : units x ≤ units y) :
      x.toNat % 2 ^ 31 ≤ y.toNat % 2 ^ 31 := by
    rw [← roundMag_units hx one_pos, ← roundMag_units hy one_pos]
    exact roundMag_mono one_pos (Nat.mul_le_mul_right 1 h)
  refine ⟨bits_le ha hb, fun h => ?_⟩
  by_contra hlt
  have hbits : (fabs a).toNat = (fabs b).toNat := by
    rw [toNat_fabs, toNat_fabs]
    exact le_antisymm h (bits_le hb ha (not_le.mp hlt).le)
  have : units a = units b := by rw [← units_fabs a, ← units_fabs b, BitVec.eq_of_toNat_eq hbits]
  omega

/-- No finite magnitude reaches an infinity's. -/
theorem units_lt_units_posInf {w : Word} (h : isFinite w = true) : units w < units 0x7F800000 := by
  have hf : fracField w < 2 ^ 23 := Nat.mod_lt _ (by norm_num)
  have he : expField w < 256 := Nat.mod_lt _ (by norm_num)
  simp only [isFinite, bne_iff_ne] at h
  change _ < 2 ^ 23 * 2 ^ 254
  unfold units
  split
  · exact hf.trans (by norm_num)
  · calc (2 ^ 23 + fracField w) * 2 ^ (expField w - 1)
        < 2 ^ 24 * 2 ^ (expField w - 1) := Nat.mul_lt_mul_of_pos_right (by omega) (Nat.two_pow_pos _)
      _ ≤ 2 ^ 24 * 2 ^ 253 := Nat.mul_le_mul_left _ (Nat.pow_le_pow_right (by norm_num) (by omega))
      _ = 2 ^ 23 * 2 ^ 254 := by norm_num

theorem value_le_value_iff {a b : Word} : value a ≤ value b ↔ sunits a ≤ sunits b := by
  rw [value, value, div_le_div_iff_of_pos_right (by positivity), Int.cast_le]

theorem value_lt_value_iff {a b : Word} : value a < value b ↔ sunits a < sunits b := by
  rw [← not_le, value_le_value_iff, not_le]

/-- IEEE comparison is false on a NaN and else compares exact values, an infinity counting as ±2^128. -/
theorem fLe_iff_value {a b : Word} : fLe a b = true ↔ isNaN a = false ∧ isNaN b = false ∧ value a ≤ value b := by
  simp [fLe, value_le_value_iff, and_assoc]

theorem fLt_iff_value {a b : Word} : fLt a b = true ↔ isNaN a = false ∧ isNaN b = false ∧ value a < value b := by
  simp [fLt, value_lt_value_iff, and_assoc]

theorem value_nonneg_of_sign_false {w : Word} (h : w.sign = false) : 0 ≤ value w := by
  rw [value, sunits_of_sign_false h]; positivity

theorem value_nonpos_of_sign_true {w : Word} (h : w.sign = true) : value w ≤ 0 := by
  simp only [value, sunits, h, if_true, Int.cast_neg, Int.cast_natCast, neg_div, neg_nonpos]
  positivity

theorem value_lt_posInf {w : Word} (h : isFinite w = true) : value w < value 0x7F800000 := by
  have hw := units_lt_units_posInf h
  have habs := le_abs_self (sunits w)
  rw [abs_sunits] at habs
  rw [value_lt_value_iff, show sunits 0x7F800000 = units 0x7F800000 by decide]
  omega

theorem negInf_lt_value {w : Word} (h : isFinite w = true) : value 0xFF800000 < value w := by
  have hw := units_lt_units_posInf h
  have habs := neg_abs_le (sunits w)
  rw [abs_sunits] at habs
  rw [value_lt_value_iff, show sunits 0xFF800000 = -units 0x7F800000 by decide]
  omega

/-- Finite words of sign + are ordered as their bits are. -/
theorem value_le_value_iff_toNat {a b : Word} (ha : FiniteNonneg a) (hb : FiniteNonneg b) :
    value a ≤ value b ↔ a.toNat ≤ b.toNat := by
  rw [value_le_value_iff, sunits_of_sign_false ha.2, sunits_of_sign_false hb.2, Int.ofNat_le,
    units_le_units_iff ha.1 hb.1, toNat_mod_of_sign_false ha.2, toNat_mod_of_sign_false hb.2]

/-! ### Nearest words (R10, R11) -/

/-- No finite word lies strictly between a word of sign + and the words just before and after it. -/
theorem value_le_or_eq_or_ge {p w n v : Word} (hn : FiniteNonneg n) (hpw : p.toNat + 1 = w.toNat)
    (hwn : w.toNat + 1 = n.toNat) (hv : isFinite v = true) : value v ≤ value p ∨ v = w ∨ value n ≤ value v := by
  have hp : FiniteNonneg p := by rw [finiteNonneg_iff_toNat_lt] at hn ⊢; omega
  cases hs : v.sign with
  | true => exact .inl ((value_nonpos_of_sign_true hs).trans (value_nonneg_of_sign_false hp.2))
  | false =>
    rcases lt_trichotomy v.toNat w.toNat with h | h | h
    · exact .inl ((value_le_value_iff_toNat ⟨hv, hs⟩ hp).mpr (by omega))
    · exact .inr (.inl (BitVec.eq_of_toNat_eq h))
    · exact .inr (.inr ((value_le_value_iff_toNat hn ⟨hv, hs⟩).mpr (by omega)))

/-- A word of sign + is the one nearest to every number strictly between the half-way points on its two sides. -/
theorem isNearestEven_of_between {r : ℚ} {p w n : Word} (hn : FiniteNonneg n) (hpw : p.toNat + 1 = w.toNat)
    (hwn : w.toNat + 1 = n.toNat) (hlo : (value p + value w) / 2 < r) (hhi : r < (value w + value n) / 2) :
    IsNearestEven r w := by
  have hw : FiniteNonneg w := by rw [finiteNonneg_iff_toNat_lt] at hn ⊢; omega
  have hp : FiniteNonneg p := by rw [finiteNonneg_iff_toNat_lt] at hn ⊢; omega
  have hlt : value p < value w := by rw [← not_le, value_le_value_iff_toNat hw hp]; omega
  have hgt : value w < value n := by rw [← not_le, value_le_value_iff_toNat hn hw]; omega
  refine ⟨hw.1, fun v hv => ?_⟩
  rcases value_le_or_eq_or_ge hn hpw hwn hv with h | rfl | h
  · have : |r - value w| < r - value v := abs_lt.mpr (by constructor <;> linarith)
    have := this.trans_le (le_abs_self _)
    exact ⟨this.le, fun e => absurd e this.ne⟩
  · exact ⟨le_rfl, fun _ => .inl rfl⟩
  · have : |r - value w| < -(r - value v) := abs_lt.mpr (by constructor <;> linarith)
    have := this.trans_le (neg_le_abs _)
    exact ⟨this.le, fun e => absurd e this.ne⟩

/-! ### clampP by a row with finite bounds in order (R13) -/

/-- A row whose bounds are finite and in order. -/
structure ClampRow.Ordered (p : ClampRow) : Prop where
  lo : isFinite p.lo = true
  hi : isFinite p.hi = true
  le : value p.lo ≤ value p.hi

theorem clampP_of_isNaN {p : ClampRow} {v : Word} (h : isNaN v = true) : (clampP v p).1 = p.nan := by
  simp [clampP, clampValue, h]

/-- A word that is no NaN is clamped by comparison of exact values. -/
theorem clampP_of_not_isNaN {p : ClampRow} {v : Word} (hp : p.Ordered) (hv : isNaN v = false) :
    (clampP v p).1 = if value v < value p.lo then p.lo else if value p.hi < value v then p.hi else v := by
  simp [clampP, clampValue, hv, fLt_iff_value, (not_nan_inf_of_finite hp.lo).1, (not_nan_inf_of_finite hp.hi).1]

theorem clampP_of_lt_lo {p : ClampRow} {v : Word} (hp : p.Ordered) (hv : isNaN v = false)
    (h : value v < value p.lo) : (clampP v p).1 = p.lo := by
  rw [clampP_of_not_isNaN hp hv, if_pos h]

theorem clampP_of_hi_lt {p : ClampRow} {v : Word} (hp : p.Ordered) (hv : isNaN v = false)
    (h : value p.hi < value v) : (clampP v p).1 = p.hi := by
  rw [clampP_of_not_isNaN hp hv, if_neg (hp.le.trans h.le).not_gt, if_pos h]

theorem clampP_of_mem {p : ClampRow} {v : Word} (hp : p.Ordered) (hv : isNaN v = false)
    (hlo : value p.lo ≤ value v) (hhi : value v ≤ value p.hi) : (clampP v p).1 = v := by
  rw [clampP_of_not_isNaN hp hv, if_neg hlo.not_gt, if_neg hhi.not_gt]

/-- CLAMP is flagged exactly when the returned word differs from the argument as a bit pattern. -/
theorem clampP_flags (v : Word) (p : ClampRow) : (clampP v p).2 = if (clampP v p).1 = v then 0 else flagCLAMP := by
  simp [clampP, flagIf]

/-! ### The rows that depend on the rate (R13) -/

/-- A product of finite words of sign + has sign +, and its bits are the rounded magnitude. -/
theorem toNat_fmul_of_finiteNonneg {a b : Word} (ha : FiniteNonneg a) (hb : FiniteNonneg b) :
    (fmul a b).toNat = roundMag (units a * units b) (2 ^ 149) := by
  have : fmul a b = signed false (roundMag (units a * units b) (2 ^ 149)) := by
    simp [fmul, not_nan_inf_of_finite ha.1, not_nan_inf_of_finite hb.1, ha.2, hb.2]
  simp [this, signed_toNat false (roundMag_lt _ _)]

/-- Multiplication by a factor of sign + keeps order (R10: roundTiesToEven is monotone). -/
theorem toNat_fmul_mono {c a b : Word} (hc : FiniteNonneg c) (ha : FiniteNonneg a) (hb : FiniteNonneg b)
    (h : a.toNat ≤ b.toNat) : (fmul c a).toNat ≤ (fmul c b).toNat := by
  rw [toNat_fmul_of_finiteNonneg hc ha, toNat_fmul_of_finiteNonneg hc hb]
  refine roundMag_mono (Nat.two_pow_pos _) (Nat.mul_le_mul_left _ ((units_le_units_iff ha.1 hb.1).mpr ?_))
  rwa [toNat_mod_of_sign_false ha.2, toNat_mod_of_sign_false hb.2]

theorem value_posZero : value 0x00000000 = 0 := by decide +kernel

theorem value_f1 : value f1 = 1 := by decide +kernel

theorem value_f1000 : value f1000 = 1000 := by decide +kernel

/-- The NaN value of row FREQ: 1000.0, or hi where that is less. -/
theorem rowFREQ_nan {sr : Word} (h : isFinite (rowFREQ sr).hi = true) :
    (rowFREQ sr).nan = if value (rowFREQ sr).hi < 1000 then (rowFREQ sr).hi else f1000 := by
  change (if fLt (rowFREQ sr).hi f1000 = true then (rowFREQ sr).hi else f1000) = _
  simp only [fLt_iff_value, (not_nan_inf_of_finite h).1, show isNaN f1000 = false by decide, true_and, value_f1000]

theorem finiteNonneg_rowFS : FiniteNonneg rowFS.lo ∧ FiniteNonneg rowFS.hi := by
  simp only [finiteNonneg_iff_toNat_lt]; decide

/-- A rate in the range of row FS is a finite word of sign + whose bits lie between those of the row's bounds. -/
theorem finiteNonneg_of_mem_rowFS {sr : Word} (hlo : fLe rowFS.lo sr = true) (hhi : fLe sr rowFS.hi = true) :
    FiniteNonneg sr ∧ rowFS.lo.toNat ≤ sr.toNat ∧ sr.toNat ≤ rowFS.hi.toNat := by
  obtain ⟨-, hnan, hlo⟩ := fLe_iff_value.mp hlo
  obtain ⟨-, -, hhi⟩ := fLe_iff_value.mp hhi
  obtain ⟨fLo, fHi⟩ := finiteNonneg_rowFS
  have hpos : 0 < value rowFS.lo := by decide +kernel
  have hs : sr.sign = false := by
    by_contra hs
    exact ((value_nonpos_of_sign_true (by simpa using hs)).trans_lt hpos).not_ge hlo
  have hf : isFinite sr = true := by
    by_contra hf
    rw [eq_posInf hnan (by simpa using hf) hs] at hhi
    exact (value_lt_posInf fHi.1).not_ge hhi
  exact ⟨⟨hf, hs⟩, (value_le_value_iff_toNat fLo ⟨hf, hs⟩).mp hlo, (value_le_value_iff_toNat ⟨hf, hs⟩ fHi).mp hhi⟩

/-- A row whose upper bound is a factor times the rate is in order at every rate of row FS, once it is in order at
8000 Hz and finite at 384 kHz. -/
theorem ordered_of_fmul_rate {c lo nan sr : Word} (hc : FiniteNonneg c) (hlo : FiniteNonneg lo)
    (hle : lo.toNat ≤ (fmul c rowFS.lo).toNat) (hfin : (fmul c rowFS.hi).toNat < 0x7F800000)
    (h : fLe rowFS.lo sr = true) (h' : fLe sr rowFS.hi = true) : ClampRow.Ordered ⟨lo, fmul c sr, nan⟩ := by
  obtain ⟨hsr, hmin, hmax⟩ := finiteNonneg_of_mem_rowFS h h'
  have hge := toNat_fmul_mono hc finiteNonneg_rowFS.1 hsr hmin
  have hfn : FiniteNonneg (fmul c sr) :=
    finiteNonneg_iff_toNat_lt.mpr ((toNat_fmul_mono hc hsr finiteNonneg_rowFS.2 hmax).trans_lt hfin)
  exact ⟨hlo.1, hfn.1, (value_le_value_iff_toNat hlo hfn).mpr (hle.trans hge)⟩

/-- Every row of R13's table is in order at every rate of row FS. -/
theorem clampRows_ordered {sr : Word} (h : fLe rowFS.lo sr = true) (h' : fLe sr rowFS.hi = true) :
    ∀ p ∈ [rowFS, rowFREQ sr, rowQ, rowGAIN, rowTAU, rowWIN, rowLFOF sr], p.Ordered := by
  have freq : (rowFREQ sr).Ordered :=
    ordered_of_fmul_rate (c := fC049) (lo := f1) ⟨by decide, by decide⟩ ⟨by decide, by decide⟩
      (by decide +kernel) (by decide +kernel) h h'
  have lfof : (rowLFOF sr).Ordered :=
    ordered_of_fmul_rate (c := fHalf) (lo := 0) ⟨by decide, by decide⟩ ⟨by decide, by decide⟩
      (by decide +kernel) (by decide +kernel) h h'
  simp only [List.forall_mem_cons]
  exact ⟨⟨rfl, rfl, by decide +kernel⟩, freq, ⟨rfl, rfl, by decide +kernel⟩, ⟨rfl, rfl, by decide +kernel⟩,
    ⟨rfl, rfl, by decide +kernel⟩, ⟨rfl, rfl, by decide +kernel⟩, lfof, by simp⟩

/-! ### The lower bounds that are no binary32 numbers (R13) -/

theorem rowQ_lo_isNearestEven : IsNearestEven (5 / 100) rowQ.lo :=
  isNearestEven_of_between (p := 0x3D4CCCCC) (n := 0x3D4CCCCE) ⟨rfl, rfl⟩ rfl rfl (by decide +kernel) (by decide +kernel)

theorem rowTAU_lo_isNearestEven : IsNearestEven (1 / 100) rowTAU.lo :=
  isNearestEven_of_between (p := 0x3C23D709) (n := 0x3C23D70B) ⟨rfl, rfl⟩ rfl rfl (by decide +kernel) (by decide +kernel)

theorem rowWIN_lo_isNearestEven : IsNearestEven (1 / 10) rowWIN.lo :=
  isNearestEven_of_between (p := 0x3DCCCCCC) (n := 0x3DCCCCCE) ⟨rfl, rfl⟩ rfl rfl (by decide +kernel) (by decide +kernel)

/-- Settles O6: the rows by value, and clampP by comparison of exact values on a row whose bounds are finite and in
order, which every row is at a prepared rate because multiplication keeps order. -/
theorem parameterClampFollowsItsRow : Obligations.ParameterClampFollowsItsRow := by
  intro sr
  refine ⟨by decide +kernel, ⟨value_f1, rfl, ?_, ?_⟩, ⟨rowQ_lo_isNearestEven, by decide +kernel, rfl⟩,
    by decide +kernel, ⟨rowTAU_lo_isNearestEven, by decide +kernel⟩, ⟨rowWIN_lo_isNearestEven, by decide +kernel⟩,
    ⟨value_posZero, rfl, rfl⟩, fun h h' p hmem => ?_⟩
  · intro hf hlt
    rw [rowFREQ_nan hf, if_pos hlt]
  · intro hf hge
    rw [rowFREQ_nan hf, if_neg hge.not_gt, value_f1000]
  · have hp := clampRows_ordered h h' p hmem
    refine ⟨hp.hi, hp.le, fun v => ⟨clampP_of_isNaN, ?_, ?_, fun hv => ?_, clampP_flags v p⟩⟩
    · rintro rfl
      exact clampP_of_hi_lt hp (by decide) (value_lt_posInf hp.hi)
    · rintro rfl
      exact clampP_of_lt_lo hp (by decide) (negInf_lt_value hp.lo)
    · have hnan := (not_nan_inf_of_finite hv).1
      exact ⟨clampP_of_lt_lo hp hnan, clampP_of_hi_lt hp hnan, clampP_of_mem hp hnan⟩

end Sys2Proof.Machine

namespace Sys2Proof.Machine

/-! ### The register window read and written through the register map (R51, R63) -/

/-- CAPS0's bytes from the top down, the order of R54's table. -/
theorem caps0_eq (p : Params) :
    caps0 p = BitVec.ofNat 32 (2 ^ 24 * p.nlfo + 2 ^ 16 * p.nenv + 2 ^ 8 * p.ndl + p.nbq) := by
  rw [caps0]
  congr 1
  omega

/-- CAPS1's fields from the top down, the order of R54's table. -/
theorem caps1_eq (p : Params) : caps1 p = BitVec.ofNat 32 (2 ^ 16 * p.nch + 2 ^ 8 * p.npg + p.ncv) := by
  rw [caps1]
  congr 1
  omega

/-- An aligned offset is that of CAPS0, of CAPS1, of CMD or of one of the thirteen other words below the data registers
(0x1C is reserved), or it lies from the data registers on. -/
theorem alignedOffset_cases (offset : Fin 256) (haligned : offset.val % 4 = 0) :
    offset = 0x08 ∨ offset = 0x0C ∨ offset = 0x30 ∨
    offset ∈ ([0x00, 0x04, 0x10, 0x14, 0x18, 0x1C, 0x20, 0x24, 0x28, 0x2C, 0x34, 0x38, 0x3C] : List (Fin 256)) ∨
    0x40 ≤ offset.val := by
  simp only [List.mem_cons, List.not_mem_nil, or_false]
  omega

theorem windowReg_of_ge {offset : Fin 256} (haligned : offset.val % 4 = 0) (hge : 0x40 ≤ offset.val) :
    windowReg offset =
      if offset.val < 0x60 then .data (Fin.ofNat 8 ((offset.val - 0x40) / 4)) else .reserved := by
  unfold windowReg
  split
  case h_16 => simp only [hge, haligned, true_and, and_true]
  all_goals omega

theorem windowValue_of_ge (s : State) {n : Nat} (hge : 0x40 ≤ n) :
    windowValue s n = if n < 0x60 then s.reg (Fin.ofNat 8 ((n - 0x40) / 4)) else 0 := by
  have hne {m : Nat} (hm : m < 0x40) : n ≠ m := by omega
  simp [windowValue, hne, hge]

theorem windowWrite_of_ge (s : State) (v : Word) {n : Nat} (hge : 0x40 ≤ n) :
    windowWrite s n v = if n < 0x60 then s.setReg (Fin.ofNat 8 ((n - 0x40) / 4)) v else s := by
  have hne {m : Nat} (hm : m < 0x40) : n ≠ m := by omega
  simp [windowWrite, hne, hge]

/-- R51, R54: the map's register at an aligned offset reads the value listed there. -/
theorem readReg_windowReg (s : State) {offset : Fin 256} (haligned : offset.val % 4 = 0) :
    s.readReg (windowReg offset) = windowValue s offset.val := by
  obtain rfl | rfl | rfl | hlow | hge := alignedOffset_cases offset haligned
  · exact caps0_eq s.params
  · exact caps1_eq s.params
  · rfl
  · fin_cases hlow <;> rfl
  · rw [windowReg_of_ge haligned hge, windowValue_of_ge s hge]
    split <;> rfl

/-- R51, R55, R56, R57, R63: a write to the map's register at an aligned offset other than CMD's has the effect listed
there. -/
theorem writeReg_windowReg (s : State) (v : Word) {offset : Fin 256} (haligned : offset.val % 4 = 0)
    (hcmd : offset.val ≠ 0x30) : s.writeReg v (windowReg offset) = .next (windowWrite s offset.val v) := by
  obtain rfl | rfl | rfl | hlow | hge := alignedOffset_cases offset haligned
  · rfl
  · rfl
  · exact absurd rfl hcmd
  · fin_cases hlow <;> rfl
  · rw [windowReg_of_ge haligned hge, windowWrite_of_ge s v hge]
    split <;> rfl

/-! ### A step that performs one aligned word access (R16, R121) -/

theorem step_of_pending_nil {s : State} (hidle : s.pending = []) : step s = .next s := by
  simp only [step, busStep, hidle]

theorem step_of_pending_cons {s : State} {a : BusAccess} {rest : List BusAccess} (hpending : s.pending = a :: rest) :
    step s = mapNext (·.observe (accessData { s with pending := rest } a))
      (accessEffect { s with pending := rest } a) := by
  simp only [step, busStep, hpending]

theorem wordAccess_word {offset : Fin 256} (haligned : offset.val % 4 = 0) : wordAccess .word offset = true := by
  simp [wordAccess, haligned]

/-- R121: a word read does nothing but let the host observe the value listed at its offset. -/
theorem step_readWord {s : State} {offset : Fin 256} {rest : List BusAccess} (haligned : offset.val % 4 = 0)
    (hpending : s.pending = .read .word offset :: rest) :
    step s = .next (({ s with pending := rest } : State).observe (some (windowValue s offset.val))) := by
  have hread : ({ s with pending := rest } : State).readReg (windowReg offset) = windowValue s offset.val :=
    readReg_windowReg { s with pending := rest } haligned
  simp only [step_of_pending_cons hpending, accessEffect, accessData, wordAccess_word haligned, if_true, hread, mapNext]

/-- R121: a word write has the effect of the register at its offset, and the host observes no data. -/
theorem step_writeWord {s : State} {offset : Fin 256} {v : Word} {rest : List BusAccess}
    (haligned : offset.val % 4 = 0) (hpending : s.pending = .write .word offset v :: rest) :
    step s = mapNext (·.observe none) (({ s with pending := rest } : State).writeReg v (windowReg offset)) := by
  simp only [step_of_pending_cons hpending, accessEffect, accessData, wordAccess_word haligned, if_true]

/-- R59: a CMD write runs the written word, then advances the command index. -/
theorem step_writeCmd {s : State} {w : Word} {rest : List BusAccess}
    (hpending : s.pending = .write .word 0x30 w :: rest) :
    step s = mapNext (·.observe none) (writeCmd w { s with pending := rest }) :=
  step_writeWord (by decide) hpending

/-- R56: write-1-to-clear. -/
theorem windowWrite_status_getLsbD (s : State) (v : Word) {b : Nat} (hb : b < 7) :
    (windowWrite s 0x24 v).status.getLsbD b = (s.status.getLsbD b && !v.getLsbD b) := by
  simp [windowWrite, hb]

/-- Settles O14: a step on an aligned word access reads or writes the register the map names at its offset, and the
map agrees offset by offset with the listed values and effects. -/
theorem wordAccessFollowsTheRegisterMap : Obligations.WordAccessFollowsTheRegisterMap := by
  intro s offset rest haligned
  refine ⟨step_readWord haligned, fun v hcmd hpending => ?_, fun v b => windowWrite_status_getLsbD s v⟩
  rw [step_writeWord haligned hpending, writeReg_windowReg _ v haligned hcmd]
  rfl

/-- R59: a legal word written to CMD is executed as the command it decodes to. -/
theorem runCommand_of_decode {s : State} {w : Word} {i : Instr} (hdecode : decode s.params w = .ok i) :
    runCommand w s = exec i s := by
  simp [runCommand, hdecode]

/-- Settles O11: a CMD write runs the word it writes, and running a word that decodes is executing its command; the
read is the word read at CMD's offset, where the map lists 0. -/
theorem cmdWriteRunsTheDecodedCommand : Obligations.CmdWriteRunsTheDecodedCommand := by
  refine ⟨fun s w rest i hpending hdecode => ?_, fun s rest => step_readWord (by decide), fun s => step_of_pending_nil⟩
  have hrun : runCommand w { s with pending := rest } = exec i { s with pending := rest } :=
    runCommand_of_decode hdecode
  rw [step_writeCmd hpending, writeCmd, hrun]
  cases exec i { s with pending := rest } <;> rfl

end Sys2Proof.Machine

namespace Sys2Proof.Machine

/-! ### A step that performs an access of another width or alignment (R122) -/

theorem wordAccess_partial {width : AccessWidth} {offset : Fin 256} (hpartial : width ≠ .word ∨ offset.val % 4 ≠ 0) :
    wordAccess width offset = false := by
  rcases hpartial with hwidth | halign
  · simp [wordAccess, hwidth]
  · simp [wordAccess, halign]

/-- R122: a partial read sets STATUS.BUS, and the host observes the data 0. -/
theorem step_readPartial {s : State} {width : AccessWidth} {offset : Fin 256} {rest : List BusAccess}
    (hpartial : width ≠ .word ∨ offset.val % 4 ≠ 0) (hpending : s.pending = .read width offset :: rest) :
    step s = .next (({ s with pending := rest } : State).flagBus.observe (some 0)) := by
  simp [step_of_pending_cons hpending, accessEffect, accessData, wordAccess_partial hpartial, mapNext]

/-- R122: a partial write sets STATUS.BUS, and the host observes no data. -/
theorem step_writePartial {s : State} {width : AccessWidth} {offset : Fin 256} {v : Word} {rest : List BusAccess}
    (hpartial : width ≠ .word ∨ offset.val % 4 ≠ 0) (hpending : s.pending = .write width offset v :: rest) :
    step s = .next (({ s with pending := rest } : State).flagBus.observe none) := by
  simp [step_of_pending_cons hpending, accessEffect, accessData, wordAccess_partial hpartial, mapNext]

/-- Settles O13: a partial access never reaches the register map, so the step on it, read or write, is setting
STATUS.BUS and observing. -/
theorem partialAccessOnlySetsBus : Obligations.PartialAccessOnlySetsBus :=
  fun _ _ _ _ hpartial => ⟨step_readPartial hpartial, fun _ => step_writePartial hpartial⟩

end Sys2Proof.Machine

namespace Sys2Proof

/-! ### The fields of a masked word (R161) -/

/-- The AND of two field splits, field by field. -/
def Fields.and (f m : Fields) : Fields where
  op := f.op &&& m.op
  rd := f.rd &&& m.rd
  ra := f.ra &&& m.ra
  rb := f.rb &&& m.rb
  rc := f.rc &&& m.rc
  ch := f.ch &&& m.ch
  fn := f.fn &&& m.fn
  u := f.u &&& m.u

theorem finOfNat_and (k a b : Nat) :
    Fin.ofNat (2 ^ k) (a &&& b) = Fin.ofNat (2 ^ k) a &&& Fin.ofNat (2 ^ k) b := by
  simp [Fin.ext_iff, Fin.and_val, Nat.and_mod_two_pow]

/-- Masking a word masks each of its fields. -/
theorem Fields.ofWord_and (w m : Word) : Fields.ofWord (w &&& m) = (Fields.ofWord w).and (Fields.ofWord m) := by
  simp only [Fields.ofWord, Fields.and, BitVec.toNat_and, Nat.and_div_two_pow, Fields.mk.injEq]
  exact ⟨finOfNat_and 6 _ _, finOfNat_and 3 _ _, finOfNat_and 3 _ _, finOfNat_and 3 _ _, finOfNat_and 3 _ _,
    finOfNat_and 2 _ _, finOfNat_and 4 _ _, finOfNat_and 8 _ _⟩

theorem Fields.ofWord_injective : Function.Injective Fields.ofWord :=
  Function.LeftInverse.injective Fields.toWord_ofWord

theorem fin_and_zero {n : Nat} [NeZero n] (x : Fin n) : x &&& 0 = 0 := by
  simp [Fin.ext_iff, Fin.and_val]

theorem fin_and_ones (k : Nat) {x m : Fin (2 ^ k)} (hm : m.val = 2 ^ k - 1) : x &&& m = x := by
  rw [Fin.ext_iff, Fin.and_val, hm, Nat.and_two_pow_sub_one_of_lt_two_pow x.isLt]

theorem op_and_ones (x : Fin 64) : x &&& 63 = x := fin_and_ones 6 rfl
theorem reg_and_ones (x : Reg) : x &&& 7 = x := fin_and_ones 3 rfl
theorem ch_and_ones (x : ChanIx) : x &&& 3 = x := fin_and_ones 2 rfl
theorem fn_and_ones (x : Fin 16) : x &&& 15 = x := fin_and_ones 4 rfl
theorem unit_and_ones (x : UnitIx) : x &&& 255 = x := fin_and_ones 8 rfl

/-- ENVCFG's mask covers FN bits 3:2 only (R171). -/
theorem fn_and_twelve_eq_zero_iff (x : Fin 16) : x &&& 12 = 0 ↔ x.val < 4 := by decide +revert

/-! ### The checks of R164 as equivalences -/

theorem unused_eq_ok_iff {zs : List Nat} {o : Except Illegal Instr} {i : Instr} :
    unused zs o = .ok i ↔ (∀ n ∈ zs, n = 0) ∧ o = .ok i := by
  simp only [unused, List.all_eq_true, beq_iff_eq]
  split
  case isTrue h => exact (and_iff_right h).symm
  case isFalse h => simp only [h, false_and, reduceCtorEq]

/-- R164 (b) for a command whose FN selects nothing. -/
theorem exists_unused_ok_iff {zs : List Nat} {j : Instr} {P : Instr → Prop} :
    (∃ i, unused zs (.ok j) = .ok i ∧ P i) ↔ (∀ n ∈ zs, n = 0) ∧ P j := by
  simp only [unused_eq_ok_iff, Except.ok.injEq, and_assoc, exists_and_left, exists_eq_left']

/-- R164 (b) and (c) for a command whose FN selects one of its operands. -/
theorem exists_unused_selected_iff {α : Type} {zs : List Nat} {o : Option α} {g : α → Instr} {P : Instr → Prop} :
    (∃ i, unused zs (selected (o.map g)) = .ok i ∧ P i) ↔ (∀ n ∈ zs, n = 0) ∧ ∃ t, o = some t ∧ P (g t) := by
  cases o with
  | none => simp [selected, unused_eq_ok_iff]
  | some t => simp [selected, exists_unused_ok_iff]

theorem FilterType.exists_ofFn_iff (fn : Fin 16) : (∃ t, FilterType.ofFn fn = some t) ↔ fn.val < 8 := by
  rw [← Option.isSome_iff_exists]
  decide +revert

theorem CoefIndex.exists_ofFn_iff (fn : Fin 16) : (∃ k, CoefIndex.ofFn fn = some k) ↔ fn.val < 5 := by
  rw [← Option.isSome_iff_exists]
  decide +revert

theorem Waveform.exists_ofFn_iff (fn : Fin 16) : (∃ w, Waveform.ofFn fn = some w) ↔ fn.val < 5 := by
  rw [← Option.isSome_iff_exists]
  decide +revert

/-- R164 (d) and (e). -/
theorem Instr.wf_iff {p : Params} {i : Instr} :
    i.wf p = true ↔ i.channelOk p = true ∧ ∀ x ∈ i.unit p, x.1.val < x.2 := by
  unfold Instr.wf Instr.unitOk
  cases i.unit p <;> simp [and_comm]

theorem decode_eq_ok_iff {p : Params} {w : Word} {i : Instr} :
    decode p w = .ok i ↔ (Fields.ofWord w).command = .ok i ∧ i.wf p = true := by
  unfold decode
  cases (Fields.ofWord w).command with
  | error e => simp
  | ok j => grind [Instr.wf]

/-! ### The rows of the opcode map (R165) -/

/-- The opcode in a row's match. -/
def OpRow.opcode (r : OpRow) : Fin 64 := (Fields.ofWord r.matchWord).op

/-- `OpRow.Accepts` on the fields of the word. -/
def OpRow.AcceptsFields (r : OpRow) (f : Fields) : Prop :=
  f.and (Fields.ofWord r.mask) = Fields.ofWord r.matchWord ∧ f.fn.val < r.fnLimit ∧ f.ch.val < r.chLimit ∧
    f.u.val < r.unitLimit

theorem OpRow.accepts_iff {r : OpRow} {w : Word} : r.Accepts w ↔ r.AcceptsFields (Fields.ofWord w) := by
  rw [OpRow.Accepts, ← Fields.ofWord_injective.eq_iff, Fields.ofWord_and]
  rfl

/-! Only the limits of the rows depend on the core's parameters, so what the mnemonics, matches and masks satisfy is
checked on the default core. -/

theorem opTable_mnemonics (p : Params) :
    (opTable p).map OpRow.mnemonic = (opTable Params.default).map OpRow.mnemonic := rfl

theorem opTable_matchWords (p : Params) :
    (opTable p).map OpRow.matchWord = (opTable Params.default).map OpRow.matchWord := rfl

theorem opTable_masks (p : Params) :
    (opTable p).map OpRow.mask = (opTable Params.default).map OpRow.mask := rfl

theorem opTable_mnemonics_nodup (p : Params) : ((opTable p).map OpRow.mnemonic).Nodup := by
  rw [opTable_mnemonics]
  decide +kernel

theorem mask_op_of_mem {p : Params} {r : OpRow} (hr : r ∈ opTable p) : (Fields.ofWord r.mask).op = 63 := by
  have hmasks : ((opTable p).map OpRow.mask).all (fun m => (Fields.ofWord m).op == 63) = true := by
    rw [opTable_masks]
    decide +kernel
  exact beq_iff_eq.mp (List.all_eq_true.mp hmasks r.mask (List.mem_map_of_mem hr))

/-- R164 (a): a word not refused for its opcode has the opcode of a row. -/
theorem exists_row_of_command (p : Params) {f : Fields} {i : Instr} (h : f.command = .ok i) :
    ∃ r ∈ opTable p, f.op = r.opcode := by
  suffices hmem : f.op.val ∈ ((opTable p).map OpRow.matchWord).map (fun v => (Fields.ofWord v).op.val) by
    obtain ⟨v, hv, hop⟩ := List.mem_map.mp hmem
    obtain ⟨r, hr, rfl⟩ := List.mem_map.mp hv
    exact ⟨r, hr, Fin.ext hop.symm⟩
  rw [opTable_matchWords]
  unfold Fields.command at h
  split at h
  case h_42 => exact nomatch h
  all_goals
    rename_i hop
    rw [hop]
    decide +kernel

/-- Every row's mask covers OP, so the row accepts only words with its opcode. -/
theorem OpRow.AcceptsFields.op_eq {p : Params} {r : OpRow} {f : Fields} (hr : r ∈ opTable p)
    (h : r.AcceptsFields f) : f.op = r.opcode := by
  have hop : f.op &&& (Fields.ofWord r.mask).op = r.opcode := congrArg Fields.op h.1
  rwa [mask_op_of_mem hr, op_and_ones] at hop

/-- The legal words with a row's opcode are those the row accepts, and their command has the row's mnemonic. -/
def OpRow.Governs (p : Params) (r : OpRow) : Prop :=
  ∀ (f : Fields) (name : String), f.op = r.opcode →
    ((∃ i, f.command = .ok i ∧ i.wf p = true ∧ i.mnemonic = name) ↔ r.AcceptsFields f ∧ r.mnemonic = name)

/-- A row's columns written out, so that the match and the mask are literals clear of the parameters. -/
theorem OpRow.governs_mk {p : Params} {mnemonic : String} {matchWord mask : Word} {fnLimit chLimit unitLimit : Nat} :
    (OpRow.mk mnemonic matchWord mask fnLimit chLimit unitLimit).Governs p ↔
      ∀ (f : Fields) (name : String), f.op = (Fields.ofWord matchWord).op →
        ((∃ i, f.command = .ok i ∧ i.wf p = true ∧ i.mnemonic = name) ↔
          (f.and (Fields.ofWord mask) = Fields.ofWord matchWord ∧
            f.fn.val < fnLimit ∧ f.ch.val < chLimit ∧ f.u.val < unitLimit) ∧ mnemonic = name) := Iff.rfl

/-- Row by row: the opcode selects the command (R165), R164 (b) and (c) on the fields it leaves unused and on FN say what
the row's mask and FN limit say, and R164 (d) and (e) are the row's U and CH limits. -/
theorem opTable_governs (p : Params) : ∀ r ∈ opTable p, r.Governs p := by
  simp only [opTable, List.forall_mem_append, List.forall_mem_cons, List.not_mem_nil, false_imp_iff, implies_true,
    and_true, and_assoc]
  and_intros
  all_goals
    simp only [OpRow.governs_mk, Fields.ofWord, BitVec.reduceToNat, Nat.reducePow, Nat.reduceDiv, Fin.reduceOfNat]
    rintro ⟨_, rd, ra, rb, rc, ch, fn, u⟩ name rfl
    rw [show Fields.command _ = unused _ _ from rfl]
    simp only [exists_unused_ok_iff, exists_unused_selected_iff, Instr.wf_iff]
    dsimp only [Instr.unit, Instr.channelOk, Instr.mnemonic]
    simp only [Fields.and, Fields.mk.injEq, fin_and_zero, op_and_ones, reg_and_ones, ch_and_ones, fn_and_ones,
      unit_and_ones, fn_and_twelve_eq_zero_iff, List.forall_mem_cons, List.not_mem_nil, false_imp_iff, implies_true,
      Fin.val_eq_zero_iff, Nat.div_eq_zero_iff_lt, Nat.ofNat_pos, Option.mem_def, Option.some.injEq, forall_eq',
      reduceCtorEq, decide_eq_true_eq, Fin.is_lt, exists_and_right, FilterType.exists_ofFn_iff,
      CoefIndex.exists_ofFn_iff, Waveform.exists_ofFn_iff, true_and, and_true, and_self_left, and_assoc]

/-! ### Legal words and accepting rows -/

theorem exists_row_of_decode {p : Params} {w : Word} {i : Instr} (h : decode p w = .ok i) :
    ∃ r ∈ opTable p, r.Accepts w ∧ r.mnemonic = i.mnemonic := by
  obtain ⟨hcommand, hwf⟩ := decode_eq_ok_iff.mp h
  obtain ⟨r, hr, hop⟩ := exists_row_of_command p hcommand
  obtain ⟨haccepts, hmnemonic⟩ := (opTable_governs p r hr _ _ hop).mp ⟨i, hcommand, hwf, rfl⟩
  exact ⟨r, hr, OpRow.accepts_iff.mpr haccepts, hmnemonic⟩

theorem exists_decode_of_accepts {p : Params} {w : Word} {r : OpRow} (hr : r ∈ opTable p) (h : r.Accepts w) :
    ∃ i, decode p w = .ok i ∧ i.mnemonic = r.mnemonic := by
  rw [OpRow.accepts_iff] at h
  obtain ⟨i, hcommand, hwf, hmnemonic⟩ := (opTable_governs p r hr _ _ (h.op_eq hr)).mpr ⟨h, rfl⟩
  exact ⟨i, decode_eq_ok_iff.mpr ⟨hcommand, hwf⟩, hmnemonic⟩

/-- Settles O9: a legal word is accepted by a row with its command's mnemonic, no other row has that mnemonic, and a
word a row accepts decodes to that row's command. -/
theorem decodingFollowsTheOpcodeMap : Obligations.DecodingFollowsTheOpcodeMap := by
  refine fun p w => ⟨fun r hr => ⟨?_, exists_decode_of_accepts hr⟩, fun i hdecode => ?_⟩
  · rintro ⟨i, hdecode, hmnemonic⟩
    obtain ⟨r', hr', haccepts, hmnemonic'⟩ := exists_row_of_decode hdecode
    have hrow : r' = r :=
      List.inj_on_of_nodup_map (opTable_mnemonics_nodup p) hr' hr (hmnemonic'.trans hmnemonic)
    rwa [← hrow]
  · obtain ⟨r, hr, -, hmnemonic⟩ := exists_row_of_decode hdecode
    exact ⟨r, hr, hmnemonic.symm⟩

end Sys2Proof

namespace Sys2Proof.Machine

/-! ### A command whose only effect is a sample result (R12, R166) -/

theorem flagged_putSample (s : State) (w : Word) (rd : Reg) (v : Word) (f : FlagSet) :
    Flagged w (f ||| (sanitize v).2) s (s.putSample w rd v f) := ⟨rfl, rfl⟩

theorem keepsExcept_putSample (s : State) (w : Word) (rd : Reg) (v : Word) (f : FlagSet) :
    KeepsExcept [] s (s.putSample w rd v f) :=
  ⟨⟨rfl, rfl, rfl, rfl, rfl, rfl, rfl, rfl⟩, fun k _ => by cases k <;> rfl⟩

theorem writes_putSample (s : State) (w : Word) (rd : Reg) (v : Word) (f : FlagSet) :
    Writes rd (sanitize v).1 s (s.putSample w rd v f) := ⟨by simp, fun r hr => by simp [hr]⟩

/-- A legal command that only puts a sample result completes on a prepared core. -/
theorem completes_of_putSample {i : Instr} {s : State} {rd : Reg} {v : Word} {f : FlagSet}
    (hexec : exec i s = frame i s fun w => .next (s.putSample w rd v f)) (hwf : i.wf s.params = true)
    (hprepared : s.prepared = true) :
    Completes i s (f ||| (sanitize v).2) [] (Writes rd (sanitize v).1 s) :=
  completes_of_frame hexec hwf hprepared rfl (flagged_putSample ..) (keepsExcept_putSample ..) (writes_putSample ..)

theorem Completes.imp {i : Instr} {s : State} {f : FlagSet} {banks : List Bank} {post post' : State → Prop}
    (h : Completes i s f banks post) (himp : ∀ t, post t → post' t) : Completes i s f banks post' := by
  obtain ⟨t, hexec, hflagged, hkeeps, hpost⟩ := h
  exact ⟨t, hexec, hflagged, hkeeps, himp t hpost⟩

/-! ### The glue commands (R205 to R209) -/

theorem exec_fadd (rd ra rb : Reg) (s : State) : exec (.fadd rd ra rb) s = glue2 (.fadd rd ra rb) fadd rd ra rb s := rfl

theorem exec_fsub (rd ra rb : Reg) (s : State) : exec (.fsub rd ra rb) s = glue2 (.fsub rd ra rb) fsub rd ra rb s := rfl

theorem exec_fmul (rd ra rb : Reg) (s : State) : exec (.fmul rd ra rb) s = glue2 (.fmul rd ra rb) fmul rd ra rb s := rfl

theorem exec_fmac (rd ra rb rc : Reg) (s : State) :
    exec (.fmac rd ra rb rc) s = frame (.fmac rd ra rb rc) s fun w =>
      .next (s.putSample w rd (fadd (s.sample ra).1 (fmul (s.sample rb).1 (s.sample rc).1))
        ((s.sample ra).2 ||| (s.sample rb).2 ||| (s.sample rc).2)) := rfl

theorem exec_sclip (rd ra : Reg) (s : State) :
    exec (.sclip rd ra) s = frame (.sclip rd ra) s fun w =>
      .next (s.putSample w rd (tanh32 (s.sample ra).1) (s.sample ra).2) := rfl

/-- Settles O25: each of the four commands is a framed command that only puts a sample result. -/
theorem glueArithmeticCompletes : Obligations.GlueArithmeticCompletes := by
  intro rd ra rb rc s
  refine ⟨obeysFrame_of_frame rfl (exec_fadd ..), obeysFrame_of_frame rfl (exec_fsub ..),
    obeysFrame_of_frame rfl (exec_fmul ..), obeysFrame_of_frame rfl (exec_fmac ..), fun hprepared => ⟨?_, ?_, ?_, ?_⟩⟩
  · exact completes_of_putSample (exec_fadd ..) rfl hprepared
  · exact completes_of_putSample (exec_fsub ..) rfl hprepared
  · exact completes_of_putSample (exec_fmul ..) rfl hprepared
  · exact completes_of_putSample (exec_fmac ..) rfl hprepared

/-! ### TANH32 contracts to [-1, 1] (R14: P-TANH-RANGE, P-TANH-CONTRACT) -/

theorem abs_value (w : Word) : |value w| = (units w : ℚ) / 2 ^ 149 := by
  rw [value, abs_div, ← Int.cast_abs, abs_sunits, Int.cast_natCast, abs_of_pos (by positivity : (0 : ℚ) < 2 ^ 149)]

theorem value_fabs (w : Word) : value (fabs w) = |value w| := by
  rw [abs_value, value, sunits_of_sign_false (sign_fabs w), units_fabs, Int.cast_natCast]

/-- No infinity is at most 1, and no NaN compares. -/
theorem isFinite_of_fLe_f1 {w : Word} (h : fLe (fabs w) f1 = true) : isFinite w = true := by
  by_contra hw
  have hinf : fabs w = 0x7F800000 :=
    eq_posInf (fLe_iff_value.mp h).1 (by simpa using hw) (sign_fabs w)
  rw [hinf] at h
  exact absurd h (by decide)

theorem isFinite_flipBy (v r : Word) : isFinite (flipBy v r) = isFinite r := by
  unfold flipBy; split <;> simp

theorem abs_value_flipBy (v r : Word) : |value (flipBy v r)| = |value r| := by
  unfold flipBy; split <;> simp [abs_value]

theorem value_of_isZero {v : Word} (h : isZero v = true) : value v = 0 := by
  simp only [isZero, Bool.and_eq_true, beq_iff_eq] at h
  simp [value, sunits, units, h]

/-- `r` is finite and of magnitude at most that of `v` and at most 1. -/
def ContractedFrom (v r : Word) : Prop := isFinite r = true ∧ |value r| ≤ |value v| ∧ |value r| ≤ 1

theorem contractedFrom_zero (v : Word) : ContractedFrom v 0 := by
  have hzero : value (0 : Word) = 0 := value_posZero
  refine ⟨by decide, ?_, ?_⟩
  · rw [hzero, abs_zero]; exact abs_nonneg _
  · rw [hzero, abs_zero]; exact zero_le_one

theorem contractedFrom_of_fLe {v r : Word} (h1 : fLe (fabs r) f1 = true) (hv : fLe (fabs r) (fabs v) = true) :
    ContractedFrom v r := by
  refine ⟨isFinite_of_fLe_f1 h1, ?_, ?_⟩
  · simpa [value_fabs] using (fLe_iff_value.mp hv).2.2
  · simpa [value_fabs, value_f1] using (fLe_iff_value.mp h1).2.2

theorem ContractedFrom.flipBy {v r : Word} (h : ContractedFrom v r) : ContractedFrom v (flipBy v r) := by
  simpa [ContractedFrom, isFinite_flipBy, abs_value_flipBy] using h

/-- A zero is kept; another word takes the sign-flipped raw value where that keeps both properties, and +0 elsewhere. -/
theorem tanh32_contractedFrom {v : Word} (hv : isFinite v = true) : ContractedFrom v (tanh32 v) := by
  simp only [tanh32, (not_nan_inf_of_finite hv).1, Bool.false_eq_true, if_false]
  split
  case isTrue hzero => exact ⟨hv, le_rfl, by simp [value_of_isZero hzero]⟩
  case isFalse =>
    refine ContractedFrom.flipBy ?_
    split
    case isTrue hraw =>
      obtain ⟨h1, hcontract⟩ := Bool.and_eq_true_iff.mp hraw
      exact contractedFrom_of_fLe h1 hcontract
    case isFalse => exact contractedFrom_zero v

theorem tanh32_zero : tanh32 0 = 0 := rfl

theorem sanitize_flags (v : Word) : (sanitize v).2 = if isFinite v then 0 else flagNUM := by
  unfold sanitize; split <;> rfl

/-- Settles O26: the operand is finite once sanitized, so TANH32 of it is contracted, and sanitizing a finite result
neither changes nor flags it. -/
theorem softClipIsBoundedAndContracts : Obligations.SoftClipIsBoundedAndContracts := by
  intro rd ra s a
  refine ⟨obeysFrame_of_frame rfl (exec_sclip rd ra s), fun hprepared => ?_⟩
  obtain ⟨hfinite, hcontract, hrange⟩ : ContractedFrom a.1 (tanh32 a.1) := tanh32_contractedFrom (sanitize_finite _)
  have hcompletes : Completes (.sclip rd ra) s (a.2 ||| (sanitize (tanh32 a.1)).2) []
      (Writes rd (sanitize (tanh32 a.1)).1 s) := completes_of_putSample (exec_sclip ..) rfl hprepared
  simp only [sanitize_of_finite hfinite, BitVec.ofNat_eq_ofNat, BitVec.or_zero, a, sanitize_flags] at hcompletes
  refine hcompletes.imp fun t hwrites => ?_
  have hresult : t.reg rd = tanh32 (sanitize (s.reg ra)).1 := hwrites.1
  rw [hresult]
  refine ⟨hwrites, hfinite, hcontract, hrange, fun hnonfinite => ?_⟩
  rw [sanitize_of_not_finite hnonfinite]
  exact tanh32_zero

end Sys2Proof.Machine

namespace Sys2Proof.Machine

/-! ### ResetDynamic (R204) -/

theorem dynamicCleared_resetDynamic (s : State) : DynamicCleared s s.resetDynamic where
  bq := s.bqAt_resetDynamic
  dl := s.dlAt_resetDynamic
  dmem := Mem.read_nil
  env := s.envAt_resetDynamic
  lfo := s.lfoAt_resetDynamic
  cv := s.cvAt_resetDynamic
  pg := s.pgAt_resetDynamic

theorem sameGlobal_resetDynamic (s : State) : SameGlobal s s.resetDynamic :=
  ⟨s.resetDynamic_params, rfl, rfl, rfl, rfl, rfl, rfl, rfl⟩

/-- Clearing a unit of any bank twice is clearing it once. -/
theorem State.resetDynamic_resetDynamic (s : State) : s.resetDynamic.resetDynamic = s.resetDynamic := by
  simp only [State.resetDynamic, List.map_map]
  rfl

/-! ### NOP and RESET, legal in every state, run unprepared (R164, R172) -/

theorem exec_nop (s : State) : exec .nop s = .next s := by
  unfold exec execNop; exact frameAlways_wf rfl _

theorem exec_reset (s : State) : exec .reset s = .next s.resetDynamic := by
  unfold exec execReset; exact frameAlways_wf rfl _

/-- Settles O23: RESET is ResetDynamic, which is idempotent. -/
theorem nopAndResetComplete : Obligations.NopAndResetComplete := by
  refine fun s => ⟨rfl, exec_nop s, rfl, s.resetDynamic, exec_reset s, dynamicCleared_resetDynamic s, fun _ => rfl,
    sameGlobal_resetDynamic s, rfl, rfl, ?_⟩
  rw [exec_reset, State.resetDynamic_resetDynamic]

end Sys2Proof.Machine

namespace Sys2Proof.Machine

/-! ### The flags of RecomputeAll (R202) and of the block size's clamp (R201) -/

theorem recomputeBq_fst (sr : Word) (b : BqUnit) :
    (recomputeBq sr b).1 = if b.designed then (design sr b).1 else b := by
  unfold recomputeBq; split <;> rfl

theorem recomputeBq_getLsbD (sr : Word) (b : BqUnit) (k : Nat) :
    (recomputeBq sr b).2.getLsbD k = true ↔ b.designed = true ∧ (design sr b).2.getLsbD k = true := by
  unfold recomputeBq; split <;> simp [*]

theorem State.recomputeAll_getLsbD (s : State) (k : Nat) :
    s.recomputeAll.2.getLsbD k = true ↔
      (∃ b ∈ s.bq, b.designed = true ∧ (design s.sr b).2.getLsbD k = true) ∨
      (∃ e ∈ s.env,
        ((envCoef s.sr e.rta).2 ||| (envCoef s.sr e.rtr).2 |||
          (winSamples s.limits.rmsWinMax s.sr e.rwin).2).getLsbD k = true) ∨
      (∃ l ∈ s.lfo, (lfoInc s.sr l.rfreq).2.getLsbD k = true) := by
  simp only [State.recomputeAll, BitVec.getLsbD_or, Bool.or_eq_true, mapFlags_getLsbD, recomputeBq_getLsbD, or_assoc,
    recomputeEnv, recomputeLfo]

theorem clampBlock_getLsbD (n k : Nat) :
    (clampBlock n).2.getLsbD k = true ↔ min (max n 1) 65536 ≠ n ∧ flagCLAMP.getLsbD k = true := by
  by_cases h : min (max n 1) 65536 = n <;> simp [clampBlock, flagIf, h]

theorem toNat_clampBlock (n : Nat) : (BitVec.ofNat 32 (clampBlock n).1).toNat = min (max n 1) 65536 :=
  (BitVec.toNat_ofNat _ _).trans (Nat.mod_eq_of_lt (by simp only [clampBlock]; omega))

/-! ### PREPARE, legal in every state, runs unprepared (R164, R172, R201) -/

/-- What PREPARE leaves, its flags apart: the rate set, RecomputeAll at it, then ResetDynamic. -/
def State.preparedAt (s : State) (sr maxblk : Word) : State := (s.setRate sr maxblk).recomputeAll.1.resetDynamic

theorem exec_prepare (ra rb : Reg) (s : State) :
    exec (.prepare ra rb) s =
      let fs := clampP (s.reg ra) rowFS
      let mb := clampBlock (s.u32 rb)
      let blk := BitVec.ofNat 32 mb.1
      .next ((s.preparedAt fs.1 blk).flag (encode (.prepare ra rb))
        (fs.2 ||| mb.2 ||| (s.setRate fs.1 blk).recomputeAll.2)) := by
  unfold exec execPrepare; exact frameAlways_wf rfl _

section
variable (s : State) (sr maxblk : Word)

theorem State.preparedAt_params : (s.preparedAt sr maxblk).params = s.params := by simp [State.preparedAt]

theorem State.bqAt_preparedAt {u : UnitIx} (h : u.val < s.bq.length) :
    (s.preparedAt sr maxblk).bqAt u = (if (s.bqAt u).designed then (design sr (s.bqAt u)).1 else s.bqAt u).clear := by
  rw [State.preparedAt, State.bqAt_resetDynamic _ _ (by simpa [mapFlags] using h),
    State.bqAt_recomputeAll (s.setRate sr maxblk) _ h, recomputeBq_fst]
  rfl

theorem State.dlAt_preparedAt {u : UnitIx} (h : u.val < s.dl.length) :
    (s.preparedAt sr maxblk).dlAt u = (s.dlAt u).clear := State.dlAt_resetDynamic _ u h

theorem State.envAt_preparedAt {u : UnitIx} (h : u.val < s.env.length) :
    (s.preparedAt sr maxblk).envAt u = (recomputeEnv s.limits.rmsWinMax sr (s.envAt u)).1.clear := by
  rw [State.preparedAt, State.envAt_resetDynamic _ _ (by simpa [mapFlags] using h),
    State.envAt_recomputeAll (s.setRate sr maxblk) _ h]
  rfl

theorem State.lfoAt_preparedAt {u : UnitIx} (h : u.val < s.lfo.length) :
    (s.preparedAt sr maxblk).lfoAt u =
      { s.lfoAt u with
        inc := (lfoInc sr (s.lfoAt u).rfreq).1, phase := 0, rng := (s.lfoAt u).seed, held := 0 } := by
  rw [State.preparedAt, State.lfoAt_resetDynamic _ _ (by simpa [mapFlags] using h),
    State.lfoAt_recomputeAll (s.setRate sr maxblk) _ h, recomputeLfo_fst, LfoUnit.restart_inc]
  rfl

theorem State.cvAt_preparedAt {u : UnitIx} (h : u.val < s.cv.length) :
    (s.preparedAt sr maxblk).cvAt u = (s.cvAt u).clearStream := State.cvAt_resetDynamic _ u h

theorem State.pgAt_preparedAt {u : UnitIx} (h : u.val < s.pg.length) :
    (s.preparedAt sr maxblk).pgAt u = (s.pgAt u).clear := State.pgAt_resetDynamic _ u h

end

/-- Settles O24: PREPARE sets the rate, then recomputes every unit at it and clears it; its flags are those of its two
clamps and of RecomputeAll. -/
theorem prepareRecomputesAndClears : Obligations.PrepareRecomputesAndClears := by
  intro ra rb s fs mb
  refine ⟨Fields.ofWord_toWord _, _, exec_prepare ra rb s, rfl, toNat_clampBlock _, rfl, fun _ => rfl,
    s.preparedAt_params _ _, rfl, rfl, rfl, rfl, fun u => s.bqAt_preparedAt _ _, fun u => s.dlAt_preparedAt _ _,
    Mem.read_nil, fun u => s.envAt_preparedAt _ _, fun u => s.lfoAt_preparedAt _ _, fun u => s.cvAt_preparedAt _ _,
    fun u => s.pgAt_preparedAt _ _, _, ⟨rfl, rfl⟩, fun k => ?_⟩
  rw [BitVec.getLsbD_or, BitVec.getLsbD_or, Bool.or_eq_true, Bool.or_eq_true, clampBlock_getLsbD,
    State.recomputeAll_getLsbD, or_assoc]
  rfl

end Sys2Proof.Machine

namespace Sys2Proof.Machine

/-! ### What a biquad command writes: a register, a unit, flags (R53, R60, R126) -/

theorem Instr.wf_of_unit {p : Params} {i : Instr} {u : UnitIx} {n : Nat} (hunit : i.unit p = some (u, n))
    (hu : u.val < n) (hchannel : i.channelOk p = true) : i.wf p = true :=
  wf_iff.mpr ⟨by simpa [Instr.unitOk, hunit] using hu, hchannel⟩

theorem writes_setReg (s : State) (rd : Reg) (v : Word) : Writes rd v s (s.setReg rd v) :=
  ⟨by simp, fun r hr => by simp [hr]⟩

/-- A legal command that only writes a data register completes on a prepared core and flags nothing. -/
theorem completes_of_setReg {i : Instr} {s : State} {rd : Reg} {v : Word} {body : Word → Out}
    (hexec : exec i s = frame i s body) (hwf : i.wf s.params = true) (hprepared : s.prepared = true)
    (hbody : body (encode i) = .next (s.setReg rd v)) : Completes i s 0 [] (Writes rd v s) :=
  completes_of_frame hexec hwf hprepared hbody ⟨(BitVec.or_zero).symm, rfl⟩
    ⟨⟨rfl, rfl, rfl, rfl, rfl, rfl, rfl, rfl⟩, fun k _ => by cases k <;> rfl⟩ (writes_setReg ..)

theorem keepsExcept_setBq (s : State) (u : UnitIx) (x : BqUnit) : KeepsExcept [.bq] s (s.setBq u x) := by
  refine ⟨⟨by simp, rfl, rfl, rfl, rfl, rfl, rfl, rfl⟩, fun k hk => ?_⟩
  cases k
  case bq => simp at hk
  all_goals rfl

/-- Writing a data register and flagging reach no bank and nothing global. -/
theorem KeepsExcept.setReg_flag {banks : List Bank} {s t : State} (h : KeepsExcept banks s t) (rd : Reg) (v w : Word)
    (f : FlagSet) : KeepsExcept banks s ((t.setReg rd v).flag w f) := by
  obtain ⟨hglobal, hbanks⟩ := h
  refine ⟨⟨hglobal.params, hglobal.irqen, hglobal.sr, hglobal.maxblk, hglobal.prepared, hglobal.pending, hglobal.ci,
    hglobal.seen⟩, fun k hk => ?_⟩
  have hsame := hbanks k hk
  cases k <;> exact hsame

theorem onlyBq_setBq (s : State) (u : UnitIx) (x : BqUnit) : OnlyBq u s (s.setBq u x) :=
  fun v hv => s.bqAt_setBq_ne u v x hv

theorem State.bqAt_setBq_self {s : State} {u : UnitIx} (hu : u.val < s.bq.length) (x : BqUnit) :
    (s.setBq u x).bqAt u = x := by simp [hu]

/-- A legal command that replaces an existing biquad unit, writes a data register and flags completes on a prepared
core. -/
theorem completes_of_setBq_setReg {i : Instr} {s : State} {rd : Reg} {v : Word} {u : UnitIx} {x : BqUnit} {f : FlagSet}
    {body : Word → Out} (hexec : exec i s = frame i s body) (hwf : i.wf s.params = true) (hprepared : s.prepared = true)
    (hu : u.val < s.bq.length) (hbody : body (encode i) = .next (((s.setBq u x).setReg rd v).flag (encode i) f)) :
    Completes i s f [.bq] fun t => Writes rd v s t ∧ t.bqAt u = x ∧ OnlyBq u s t :=
  completes_of_frame hexec hwf hprepared hbody ⟨rfl, rfl⟩ ((keepsExcept_setBq s u x).setReg_flag rd v (encode i) f)
    ⟨writes_setReg (s.setBq u x) rd v, State.bqAt_setBq_self hu x, onlyBq_setBq s u x⟩

/-! ### BQDES, BQPROC, BQCLR and BQRDC as framed commands (R252 to R255) -/

theorem exec_bqdes (rd ra rb rc : Reg) (ty : FilterType) (u : UnitIx) (s : State) :
    exec (.bqdes rd ra rb rc ty u) s = frame (.bqdes rd ra rb rc ty u) s fun w =>
      if (s.bqAt u).keeps ty (s.reg ra) (s.reg rb) (s.reg rc) s.sr then .next (s.setReg rd 0)
      else
        let d := design s.sr
          { s.bqAt u with type := ty, rf := s.reg ra, rq := s.reg rb, rg := s.reg rc, designed := true }
        .next (((s.setBq u d.1).setReg rd 1).flag w d.2) := rfl

theorem exec_bqproc (rd ra : Reg) (c : ChanIx) (u : UnitIx) (s : State) :
    exec (.bqproc rd ra c u) s = frame (.bqproc rd ra c u) s fun w =>
      let r := biquadStep (s.bqAt u) c (s.sample ra).1
      .next (((s.setBq u r.2.1).setReg rd r.1).flag w ((s.sample ra).2 ||| r.2.2)) := rfl

theorem exec_bqclr (u : UnitIx) (s : State) :
    exec (.bqclr u) s = frame (.bqclr u) s fun _ => .next (s.setBq u (s.bqAt u).clear) := rfl

theorem exec_bqrdc (rd : Reg) (k : CoefIndex) (u : UnitIx) (s : State) :
    exec (.bqrdc rd k u) s = frame (.bqrdc rd k u) s fun _ => .next (s.setReg rd ((s.bqAt u).coef k)) := rfl

/-! ### The coefficient check (R247, R249) -/

theorem isFinite_normCoef (b a0 : Word) : isFinite (normCoef b a0) = isFinite (fdiv b a0) := by
  unfold normCoef
  split
  case isTrue hneg => rw [hneg]; rfl
  case isFalse => rfl

theorem normCoef_ne_negZero (b a0 : Word) : normCoef b a0 ≠ 0x80000000 := by
  unfold normCoef
  split
  case isTrue => decide
  case isFalse hne => exact hne

/-- The coefficient check of R249 fails: a0 is zero or a quotient by it is not finite. -/
def RawCoefs.bad (r : RawCoefs) : Bool :=
  isZero r.a0 || !(isFinite (fdiv r.b0 r.a0) && isFinite (fdiv r.b1 r.a0) &&
    isFinite (fdiv r.b2 r.a0) && isFinite (fdiv r.a1 r.a0) && isFinite (fdiv r.a2 r.a0))

theorem checkedCoefs_eq (r : RawCoefs) :
    checkedCoefs r = if r.bad then (Coefs.passthrough, flagNUM) else (normalize r, 0) := by
  have hbad : (isZero r.a0 || !(normalize r).finite) = r.bad := by
    simp only [RawCoefs.bad, Coefs.finite, normalize, isFinite_normCoef]
  rw [checkedCoefs, hbad]

/-- A value a design may store: finite and not -0.0 (R247, R249). -/
def IsStoredCoef (v : Word) : Prop := isFinite v = true ∧ v ≠ 0x80000000

theorem isStoredCoef_zero : IsStoredCoef 0 := ⟨by decide, by decide⟩

theorem isStoredCoef_f1 : IsStoredCoef f1 := ⟨by decide, by decide⟩

theorem isStoredCoef_normCoef {b a0 : Word} (h : isFinite (fdiv b a0) = true) : IsStoredCoef (normCoef b a0) :=
  ⟨by rw [isFinite_normCoef, h], normCoef_ne_negZero b a0⟩

theorem isStoredCoef_ite {bad : Bool} {v b a0 : Word} (hv : IsStoredCoef v)
    (h : bad = false → isFinite (fdiv b a0) = true) : IsStoredCoef (if bad then v else normCoef b a0) := by
  split
  case isTrue => exact hv
  case isFalse hgood => exact isStoredCoef_normCoef (h (Bool.eq_false_of_not_eq_true hgood))

/-- Every quotient by a0 is finite (R249). -/
structure RawCoefs.QuotientsFinite (r : RawCoefs) : Prop where
  b0 : isFinite (fdiv r.b0 r.a0) = true
  b1 : isFinite (fdiv r.b1 r.a0) = true
  b2 : isFinite (fdiv r.b2 r.a0) = true
  a1 : isFinite (fdiv r.a1 r.a0) = true
  a2 : isFinite (fdiv r.a2 r.a0) = true

theorem RawCoefs.quotientsFinite_of_not_bad {r : RawCoefs} (h : r.bad = false) : r.QuotientsFinite := by
  rw [RawCoefs.bad, Bool.or_eq_false_iff, Bool.not_eq_false'] at h
  obtain ⟨-, hquotients⟩ := h
  simp only [Bool.and_eq_true] at hquotients
  obtain ⟨⟨⟨⟨hb0, hb1⟩, hb2⟩, ha1⟩, ha2⟩ := hquotients
  exact ⟨hb0, hb1, hb2, ha1, ha2⟩

/-- The unnormalized coefficients `design` computes for the unit's stored design words, clamped (R242, R243, R246). -/
def BqUnit.rawCoefs (sr : Word) (b : BqUnit) : RawCoefs :=
  designRaw b.type (clampP b.rf (rowFREQ sr)).1 (clampP b.rq rowQ).1 (clampP b.rg rowGAIN).1 sr

theorem design_eq (sr : Word) (b : BqUnit) :
    let r := b.rawCoefs sr
    design sr b =
      ({ b with
          b0 := if r.bad then f1 else normCoef r.b0 r.a0, b1 := if r.bad then 0 else normCoef r.b1 r.a0
          b2 := if r.bad then 0 else normCoef r.b2 r.a0, a1 := if r.bad then 0 else normCoef r.a1 r.a0
          a2 := if r.bad then 0 else normCoef r.a2 r.a0, cfs := sr },
        (clampP b.rf (rowFREQ sr)).2 ||| (clampP b.rq rowQ).2 ||| (clampP b.rg rowGAIN).2 |||
          if r.bad then flagNUM else 0) := by
  intro r
  have hr : designRaw b.type (clampP b.rf (rowFREQ sr)).1 (clampP b.rq rowQ).1 (clampP b.rg rowGAIN).1 sr = r := rfl
  rw [design, hr, checkedCoefs_eq]
  cases r.bad <;> simp only [Bool.false_eq_true, if_true, if_false, normalize, Coefs.passthrough]

theorem design_coef_isStoredCoef (sr : Word) (b : BqUnit) (k : CoefIndex) :
    IsStoredCoef ((design sr b).1.coef k) := by
  rw [design_eq]
  have hfinite := (b.rawCoefs sr).quotientsFinite_of_not_bad
  cases k
  case b0 => exact isStoredCoef_ite isStoredCoef_f1 fun h => (hfinite h).b0
  case b1 => exact isStoredCoef_ite isStoredCoef_zero fun h => (hfinite h).b1
  case b2 => exact isStoredCoef_ite isStoredCoef_zero fun h => (hfinite h).b2
  case a1 => exact isStoredCoef_ite isStoredCoef_zero fun h => (hfinite h).a1
  case a2 => exact isStoredCoef_ite isStoredCoef_zero fun h => (hfinite h).a2

/-- Settles O29: the row R246 lists for the type is the one `designRaw` computes, and the coefficient check either
stores its quotients or the passthrough set. -/
theorem designedCoefficientsAreFinite : Obligations.DesignedCoefficientsAreFinite := by
  intro sr b d f q g w0 sn cs alpha A m p a1c ap am aA adA tsa Ap1 Am1 uu vv raw quotient bad
  have hraw : b.rawCoefs sr = raw := by
    simp only [raw]
    unfold BqUnit.rawCoefs designRaw
    cases b.type <;> rfl
  have hdesign := design_eq sr b
  rw [hraw] at hdesign
  refine ⟨rfl, design_coef_isStoredCoef sr b, ?_⟩
  simp only [d, hdesign]
  exact ⟨rfl, rfl, rfl, rfl, rfl, rfl⟩

/-- Settles O28: BQDES branches on the comparison `BqUnit.keeps` makes, and a design keeps Z1 and Z2 and stores the
rate. -/
theorem biquadDesignRunsOnlyOnChange : Obligations.BiquadDesignRunsOnlyOnChange := by
  intro rd ra rb rc ty u s i b stored
  have hkeeps : b.keeps ty (s.reg ra) (s.reg rb) (s.reg rc) s.sr = true ↔ b.designed = true ∧ b.type = ty ∧
      b.rf = s.reg ra ∧ b.rq = s.reg rb ∧ b.rg = s.reg rc ∧ b.cfs = s.sr := by
    simp only [BqUnit.keeps, Bool.and_eq_true, beq_iff_eq, and_assoc]
  refine ⟨obeysFrame_of_frame rfl (exec_bqdes ..), fun hu hprepared => ?_⟩
  have hwf : i.wf s.params = true := Instr.wf_of_unit rfl hu rfl
  rw [← hkeeps]
  refine ⟨fun hsame => ?_, fun hchanged => ?_⟩
  · exact completes_of_setReg (exec_bqdes ..) hwf hprepared (if_pos hsame)
  · refine (completes_of_setBq_setReg (exec_bqdes ..) hwf hprepared hu (if_neg hchanged)).imp ?_
    rintro t ⟨hwrites, hunit, honly⟩
    refine ⟨hwrites, hunit, honly, ?_, ?_, ?_⟩ <;> rw [hunit] <;> rfl

/-! ### One sample of the filter (R251) -/

/-- The output y of `Step(u, c, x)` before the recovery check (R251). -/
def BqUnit.nextY (b : BqUnit) (c : ChanIx) (x : Word) : Word := fadd (fmul b.b0 x) (b.z1.get c)

/-- The new Z1 of `Step(u, c, x)` before the recovery check (R251). -/
def BqUnit.nextZ1 (b : BqUnit) (c : ChanIx) (x : Word) : Word :=
  fsub (fadd (fmul b.b1 x) (b.z2.get c)) (fmul b.a1 (b.nextY c x))

/-- The new Z2 of `Step(u, c, x)` before the recovery check (R251). -/
def BqUnit.nextZ2 (b : BqUnit) (c : ChanIx) (x : Word) : Word := fsub (fmul b.b2 x) (fmul b.a2 (b.nextY c x))

/-- The recovery branch of R251 is not taken. -/
def BqUnit.StepsFinite (b : BqUnit) (c : ChanIx) (x : Word) : Prop :=
  isFinite (b.nextY c x) = true ∧ isFinite (b.nextZ1 c x) = true ∧ isFinite (b.nextZ2 c x) = true

theorem BqUnit.stepsFinite_iff {b : BqUnit} {c : ChanIx} {x : Word} :
    (isFinite (b.nextY c x) && isFinite (b.nextZ1 c x) && isFinite (b.nextZ2 c x)) = true ↔ b.StepsFinite c x := by
  simp only [BqUnit.StepsFinite, Bool.and_eq_true, and_assoc]

theorem biquadStep_of_stepsFinite {b : BqUnit} {c : ChanIx} {x : Word} (h : b.StepsFinite c x) :
    biquadStep b c x = (b.nextY c x, b.setZ c (b.nextZ1 c x) (b.nextZ2 c x), 0) :=
  if_pos (BqUnit.stepsFinite_iff.mpr h)

theorem biquadStep_of_not_stepsFinite {b : BqUnit} {c : ChanIx} {x : Word} (h : ¬b.StepsFinite c x) :
    biquadStep b c x = (0, b.setZ c 0 0, flagNUM) :=
  if_neg (mt BqUnit.stepsFinite_iff.mp h)

/-- `b'` is `b` with m1 and m2 in the state of channel c, and nothing else changed. -/
structure BqUnit.ChannelSet (b b' : BqUnit) (c : ChanIx) (m1 m2 : Word) : Prop where
  z1 : b'.z1.get c = m1
  z2 : b'.z2.get c = m2
  others : ∀ k : ChanIx, k ≠ c → b'.z1.get k = b.z1.get k ∧ b'.z2.get k = b.z2.get k
  rest : b' = { b with z1 := b'.z1, z2 := b'.z2 }

theorem BqUnit.channelSet_setZ (b : BqUnit) (c : ChanIx) (m1 m2 : Word) :
    b.ChannelSet (b.setZ c m1 m2) c m1 m2 where
  z1 := by simp [BqUnit.setZ, Vector.get_eq_getElem]
  z2 := by simp [BqUnit.setZ, Vector.get_eq_getElem]
  others k hk := by
    have hne : c.val ≠ k.val := fun h => hk (Fin.ext h.symm)
    simp [BqUnit.setZ, Vector.get_eq_getElem, hne]
  rest := rfl

/-- BQPROC on an existing unit completes with the output and the channel state that `Step` gives. -/
theorem completes_bqproc {rd ra : Reg} {c : ChanIx} {u : UnitIx} {s : State} (hu : u.val < s.bq.length)
    (hc : c.val < s.limits.nch) (hprepared : s.prepared = true) {out m1 m2 : Word} {f : FlagSet}
    (hstep : biquadStep (s.bqAt u) c (s.sample ra).1 = (out, (s.bqAt u).setZ c m1 m2, f)) :
    Completes (.bqproc rd ra c u) s ((s.sample ra).2 ||| f) [.bq] fun t =>
      Writes rd out s t ∧ OnlyBq u s t ∧ (s.bqAt u).ChannelSet (t.bqAt u) c m1 m2 := by
  have hwf : (Instr.bqproc rd ra c u).wf s.params = true := Instr.wf_of_unit rfl hu (decide_eq_true hc)
  refine (completes_of_setBq_setReg (exec_bqproc ..) hwf hprepared hu (by rw [hstep])).imp ?_
  rintro t ⟨hwrites, hunit, honly⟩
  exact ⟨hwrites, honly, hunit ▸ (s.bqAt u).channelSet_setZ c m1 m2⟩

/-- Settles O32: `Step` on the sanitized sample, in its regular branch and in its recovery branch. -/
theorem biquadProcessesOneSample : Obligations.BiquadProcessesOneSample := by
  intro rd ra c u s i b x z1 z2 y n1 n2 good post
  refine ⟨obeysFrame_of_frame rfl (exec_bqproc ..), fun hu hc hprepared => ⟨fun hgood => ?_, fun hbad => ?_⟩⟩
  · have hcompletes := completes_bqproc (rd := rd) (ra := ra) hu hc hprepared (biquadStep_of_stepsFinite hgood)
    rw [BitVec.ofNat_eq_ofNat, BitVec.or_zero] at hcompletes
    refine hcompletes.imp ?_
    rintro t ⟨hwrites, honly, hset⟩
    exact ⟨hwrites, hgood.1, honly, hset.z1, hset.z2, hset.others, hset.rest⟩
  · refine (completes_bqproc hu hc hprepared (biquadStep_of_not_stepsFinite hbad)).imp ?_
    rintro t ⟨hwrites, honly, hset⟩
    exact ⟨hwrites, by decide, honly, hset.z1, hset.z2, hset.others, hset.rest⟩

/-- Settles O33: BQCLR only replaces its unit by the cleared one, BQRDC only writes the coefficient read. -/
theorem biquadClearAndReadbackComplete : Obligations.BiquadClearAndReadbackComplete := by
  intro rd k u s
  refine ⟨obeysFrame_of_frame rfl (exec_bqclr u s), obeysFrame_of_frame rfl (exec_bqrdc rd k u s),
    fun hu hprepared => ⟨?_, ?_⟩⟩
  · exact completes_of_frame (exec_bqclr u s) (Instr.wf_of_unit rfl hu rfl) hprepared rfl ⟨(BitVec.or_zero).symm, rfl⟩
      (keepsExcept_setBq ..) ⟨fun _ => rfl, onlyBq_setBq s u _, State.bqAt_setBq_self hu _⟩
  · have hcompletes := completes_of_setReg (exec_bqrdc rd k u s) (Instr.wf_of_unit rfl hu rfl) hprepared rfl
    cases k <;> exact hcompletes

end Sys2Proof.Machine

namespace Sys2Proof.Machine

/-! ### What a delay command writes: a unit, the delay RAM, flags (R65, R66, R125) -/

theorem DlUnit.Inv.regionOk {words : Nat} {d : DlUnit} (h : d.Inv words) : d.regionOk words = true := by
  simp [DlUnit.regionOk, h.cap, h.region]

theorem onlyDl_setDl (s : State) (u : UnitIx) (x : DlUnit) : OnlyDl u s (s.setDl u x) :=
  fun v hv => s.dlAt_setDl_ne u v x hv

theorem State.dlAt_setDl_self {s : State} {u : UnitIx} (hu : u.val < s.dl.length) (x : DlUnit) :
    (s.setDl u x).dlAt u = x := by simp [hu]

theorem keepsExcept_setDl_setDmem_flag (s : State) (u : UnitIx) (x : DlUnit) (m : Mem) (w : Word) (f : FlagSet) :
    KeepsExcept [.dl, .dmem] s (((s.setDl u x).setDmem m).flag w f) := by
  refine ⟨⟨by simp, rfl, rfl, rfl, rfl, rfl, rfl, rfl⟩, fun k hk => ?_⟩
  cases k
  case dl | dmem => simp at hk
  all_goals rfl

/-- A legal command that replaces an existing delay unit and the delay RAM, and flags, completes on a prepared core. -/
theorem completes_of_setDl_setDmem {i : Instr} {s : State} {u : UnitIx} {x : DlUnit} {m : Mem} {f : FlagSet}
    {body : Word → Out} (hexec : exec i s = frame i s body) (hwf : i.wf s.params = true) (hprepared : s.prepared = true)
    (hu : u.val < s.dl.length) (hbody : body (encode i) = .next (((s.setDl u x).setDmem m).flag (encode i) f)) :
    Completes i s f [.dl, .dmem] fun t => SameRegs s t ∧ t.dlAt u = x ∧ OnlyDl u s t ∧ t.dmem = m :=
  completes_of_frame hexec hwf hprepared hbody ⟨rfl, rfl⟩ (keepsExcept_setDl_setDmem_flag ..)
    ⟨fun _ => rfl, State.dlAt_setDl_self hu x, onlyDl_setDl s u x, rfl⟩

/-! ### The delay commands as framed commands (R294, R296 to R299) -/

theorem exec_dlcfg (ra rb : Reg) (u : UnitIx) (s : State) :
    exec (.dlcfg ra rb u) s = frame (.dlcfg ra rb u) s fun w =>
      let r := dlRegion s.limits.dmemWords (s.u32 ra) (s.u32 rb)
      .next (((s.setDl u r.1).setDmem (s.dmem.zeroRange r.1.base r.1.cap)).flag w r.2) := rfl

theorem exec_dlwr (ra : Reg) (u : UnitIx) (s : State) :
    exec (.dlwr ra u) s = frame (.dlwr ra u) s fun w =>
      if (s.dlAt u).regionOk s.limits.dmemWords then
        let d := (s.dlAt u).advance
        .next (((s.setDl u d).setDmem (s.dmem.write (d.base + d.wi) (s.sample ra).1)).flag w (s.sample ra).2)
      else .fault .dmemRegion := rfl

theorem exec_dlclr (u : UnitIx) (s : State) :
    exec (.dlclr u) s = frame (.dlclr u) s fun _ =>
      if (s.dlAt u).regionOk s.limits.dmemWords then
        .next ((s.setDl u (s.dlAt u).clear).setDmem (s.dmem.zeroRange (s.dlAt u).base (s.dlAt u).cap))
      else .fault .dmemRegion := rfl

theorem exec_dlrdl (rd ra : Reg) (u : UnitIx) (s : State) :
    exec (.dlrdl rd ra u) s = delayRead (.dlrdl rd ra u) lin rd ra u s := rfl

theorem exec_dlrdc (rd ra : Reg) (u : UnitIx) (s : State) :
    exec (.dlrdc rd ra u) s = delayRead (.dlrdc rd ra u) cub rd ra u s := rfl

/-- On a unit whose region lies in DMEM a delay read only puts a sample result. -/
theorem delayRead_of_inv {interp : Mem → DlUnit → Word → Word} {u : UnitIx} {s : State} (i : Instr) (rd ra : Reg)
    (hinv : (s.dlAt u).Inv s.limits.dmemWords) :
    delayRead i interp rd ra u s = frame i s fun w =>
      let D := delayClamp (s.reg ra) (s.dlAt u)
      .next (s.putSample w rd (interp s.dmem (s.dlAt u) D.1) D.2) := by
  simp [delayRead, hinv.regionOk]

theorem completes_of_delayRead {i : Instr} {interp : Mem → DlUnit → Word → Word} {rd ra : Reg} {u : UnitIx} {s : State}
    (hexec : exec i s = delayRead i interp rd ra u s) (hunit : i.unit s.params = some (u, s.dl.length))
    (hchannel : i.channelOk s.params = true) (hu : u.val < s.dl.length) (hprepared : s.prepared = true)
    (hinv : (s.dlAt u).Inv s.limits.dmemWords) :
    let D := delayClamp (s.reg ra) (s.dlAt u)
    let y := sanitize (interp s.dmem (s.dlAt u) D.1)
    Completes i s (D.2 ||| y.2) [] (Writes rd y.1 s) :=
  completes_of_putSample (hexec.trans (delayRead_of_inv i rd ra hinv)) (Instr.wf_of_unit hunit hu hchannel) hprepared

/-- R294's region by value, with RSRC exactly where the request does not fit. -/
theorem dlRegion_eq (words b md : Nat) :
    let base := min b (words - 3)
    dlRegion words b md = (⟨base, min (md + 3) (words - base), 0⟩,
      if b > words - 3 ∨ md + 3 > words - base then flagRSRC else 0) := by
  simp [dlRegion, flagIf]

/-- Settles O36: both commands replace the unit and zero the range of its region. -/
theorem delayConfigurationZeroesItsRegion : Obligations.DelayConfigurationZeroesItsRegion := by
  intro ra rb u s d b cap
  refine ⟨obeysFrame_of_frame rfl (exec_dlcfg ..), obeysFrame_of_frame rfl (exec_dlclr ..), fun hu hprepared =>
    ⟨?_, fun hinv => ?_⟩⟩
  · refine (completes_of_setDl_setDmem (exec_dlcfg ..) (Instr.wf_of_unit rfl hu rfl) hprepared hu
      (by rw [dlRegion_eq]; rfl)).imp ?_
    rintro t ⟨hregs, hunit, honly, hmem⟩
    exact ⟨hregs, hunit, honly, hmem ▸ s.dmem.read_zeroRange b cap⟩
  · refine (completes_of_setDl_setDmem (exec_dlclr ..) (Instr.wf_of_unit rfl hu rfl) hprepared hu
      (by rw [State.flag_zero, if_pos hinv.regionOk])).imp ?_
    rintro t ⟨hregs, hunit, honly, hmem⟩
    exact ⟨hregs, hunit, honly, hmem ▸ s.dmem.read_zeroRange d.base d.cap⟩

/-- Settles O37: DLWR replaces the unit by the advanced one and the delay RAM by one write. -/
theorem delayWriteStoresOneWord : Obligations.DelayWriteStoresOneWord := by
  intro ra u s v d wi
  refine ⟨obeysFrame_of_frame rfl (exec_dlwr ..), fun hu hprepared hinv hwf => ?_⟩
  refine (completes_of_setDl_setDmem (exec_dlwr ..) (Instr.wf_of_unit rfl hu rfl) hprepared hu
    (if_pos hinv.regionOk)).imp ?_
  rintro t ⟨hregs, hunit, honly, hmem⟩
  have hread := Mem.read_write hwf (d.base + wi) v.1
  refine ⟨hregs, hunit, honly, ?_, fun a ha => ?_⟩
  · exact hmem ▸ (hread _).trans (if_pos rfl)
  · exact hmem ▸ (hread a).trans (if_neg ha)

/-- Settles O39: each read puts one sample, and its interpolator is the statement's formula over the taps. -/
theorem delayReadsComplete : Obligations.DelayReadsComplete := by
  intro rd ra u s d D k fr x newer c1 c2 c3 linear cubic
  have hlinear : sanitize (lin s.dmem d D.1) = linear := congrArg sanitize rfl
  have hcubic : sanitize (cub s.dmem d D.1) = cubic := congrArg sanitize rfl
  refine ⟨obeysFrame_of_frame rfl (exec_dlrdl ..), obeysFrame_of_frame rfl (exec_dlrdc ..),
    fun hu hprepared hinv => ⟨?_, ?_⟩⟩
  · rw [← hlinear]
    exact completes_of_delayRead (exec_dlrdl ..) rfl rfl hu hprepared hinv
  · rw [← hcubic]
    exact completes_of_delayRead (exec_dlrdc ..) rfl rfl hu hprepared hinv

end Sys2Proof.Machine

namespace Sys2Proof.Machine

/-! ### Exact sums: a result that a word holds is that word (R10) -/

/-- The magnitude of a word of sign + rounds to that word. -/
theorem signed_roundMag_units {w : Word} (hw : FiniteNonneg w) : signed false (roundMag (units w) 1) = w := by
  have hbits := roundMag_units hw.1 one_pos
  rw [mul_one, toNat_mod_of_sign_false hw.2] at hbits
  simp [hbits, signed]

/-- A 24-bit significand with its leading bit set is the magnitude of a normal word. -/
theorem finiteNonneg_normal {e j : Nat} (he : e ≤ 253) (hlo : 2 ^ 23 ≤ j) (hj : j < 2 ^ 24) :
    FiniteNonneg (signed false (e * 2 ^ 23 + j)) ∧ units (signed false (e * 2 ^ 23 + j)) = j * 2 ^ e := by
  have hlt : e * 2 ^ 23 + j < 2 ^ 31 := by omega
  have hexp : expField (signed false (e * 2 ^ 23 + j)) = e + 1 := by rw [expField_signed false hlt]; omega
  have hfrac : fracField (signed false (e * 2 ^ 23 + j)) = j - 2 ^ 23 := by rw [fracField_signed false hlt]; omega
  refine ⟨⟨?_, sign_signed false hlt⟩, ?_⟩
  · rw [isFinite, hexp, bne_iff_ne]; omega
  · rw [units, hexp, hfrac, if_neg (Nat.succ_ne_zero e), Nat.add_sub_cancel' hlo, Nat.add_sub_cancel]

/-- A 23-bit number of units is the magnitude of a subnormal word. -/
theorem finiteNonneg_subnormal {j : Nat} (hj : j < 2 ^ 23) :
    FiniteNonneg (signed false j) ∧ units (signed false j) = j := by
  have hlt : j < 2 ^ 31 := by omega
  have hexp : expField (signed false j) = 0 := by rw [expField_signed false hlt]; omega
  refine ⟨⟨?_, sign_signed false hlt⟩, ?_⟩
  · rw [isFinite, hexp]; rfl
  · rw [units, if_pos hexp, fracField_signed false hlt]; omega

/-- A 24-bit multiple of a power of two is the magnitude of a word: a multiplier below 2^23 is doubled until its
leading bit is set or the power is the least one, 2^-149. -/
theorem exists_units_eq_mul_two_pow {e j : Nat} (he : e ≤ 253) (hj : j < 2 ^ 24) :
    ∃ w, FiniteNonneg w ∧ units w = j * 2 ^ e := by
  induction e generalizing j with
  | zero =>
    rcases Nat.lt_or_ge j (2 ^ 23) with hlow | hlead
    · exact ⟨_, by simpa using finiteNonneg_subnormal hlow⟩
    · exact ⟨_, finiteNonneg_normal he hlead hj⟩
  | succ e ih =>
    rcases Nat.lt_or_ge j (2 ^ 23) with hlow | hlead
    · obtain ⟨w, hw, hunits⟩ := ih (j := 2 * j) (by omega) (by omega)
      exact ⟨w, hw, by rw [hunits]; ring⟩
    · exact ⟨_, finiteNonneg_normal he hlead hj⟩

/-- toF32 is exact on 24-bit naturals (R11). -/
theorem toF32_exact {n : Nat} (hn : n < 2 ^ 24) : FiniteNonneg (toF32 n) ∧ units (toF32 n) = n * 2 ^ 149 := by
  obtain ⟨w, hw, hunits⟩ := exists_units_eq_mul_two_pow (e := 149) (by norm_num) hn
  have heq : toF32 n = w := by rw [← signed_roundMag_units hw, hunits]; rfl
  rw [heq]
  exact ⟨hw, hunits⟩

theorem value_of_sunits {w : Word} {n : Nat} (h : sunits w = n) : value w = n / 2 ^ 149 := by
  rw [value, h, Int.cast_natCast]

theorem value_toF32 {n : Nat} (hn : n < 2 ^ 24) : value (toF32 n) = n := by
  obtain ⟨⟨-, hsign⟩, hunits⟩ := toF32_exact hn
  rw [value_of_sunits (sunits_of_sign_false hsign), hunits]
  push_cast
  exact mul_div_cancel_right₀ _ (by positivity)

theorem sunits_of_value_nonneg {w : Word} (h : 0 ≤ value w) : sunits w = units w := by
  rw [← value_posZero, value_le_value_iff] at h
  rw [← abs_sunits, abs_of_nonneg h]

theorem isZero_of_sunits_eq_zero {w : Word} (h : sunits w = 0) : isZero w = true := by
  have hunits : units w = 0 := by rw [← Int.natCast_eq_zero, ← abs_sunits, h, abs_zero]
  unfold units at hunits
  split at hunits
  case isTrue hexp => simp [isZero, hexp, hunits]
  case isFalse => simp at hunits

/-- A sum of finite words whose exact value is that of a word of sign + has that value (R10). -/
theorem fadd_exact {a b w : Word} (ha : isFinite a = true) (hb : isFinite b = true) (hw : FiniteNonneg w)
    (h : sunits a + sunits b = units w) : isFinite (fadd a b) = true ∧ sunits (fadd a b) = units w := by
  obtain ⟨hanan, hainf⟩ := not_nan_inf_of_finite ha
  obtain ⟨hbnan, hbinf⟩ := not_nan_inf_of_finite hb
  simp only [fadd, hanan, hainf, hbnan, hbinf, h, Bool.or_self, Bool.false_eq_true, if_false]
  split
  case isTrue hzero =>
    rw [hzero]
    cases a.sign && b.sign <;> decide
  case isFalse =>
    have hsign : decide ((units w : Int) < 0) = false := by simp
    rw [hsign, Int.natAbs_natCast, signed_roundMag_units hw]
    exact ⟨hw.1, sunits_of_sign_false hw.2⟩

/-! ### The delay operand (R291) -/

theorem DlUnit.Inv.dmax_lt {words : Nat} {d : DlUnit} (h : d.Inv words) (hwords : words ≤ 2 ^ 24) :
    d.dmax < 2 ^ 24 := by
  have := h.cap
  have := h.region
  unfold DlUnit.dmax
  omega

theorem delayClamp_of_isNaN {v : Word} (d : DlUnit) (h : isNaN v = true) : delayClamp v d = (0, flagCLAMP) := by
  simp [delayClamp, h]

/-- An operand that is no NaN is clamped by comparison of exact values. -/
theorem delayClamp_of_not_isNaN {v : Word} {d : DlUnit} (hd : d.dmax < 2 ^ 24) (hv : isNaN v = false) :
    delayClamp v d = if value v < 0 then (0, flagCLAMP)
      else if d.dmax < value v then (toF32 d.dmax, flagRSRC) else (v, 0) := by
  have hmax := (not_nan_inf_of_finite (toF32_exact hd).1.1).1
  simp only [delayClamp, fLt_iff_value, hv, hmax, value_toF32 hd, value_posZero, show isNaN 0 = false by decide,
    Bool.false_eq_true, if_false, true_and]

theorem delayClamp_of_neg {v : Word} {d : DlUnit} (hd : d.dmax < 2 ^ 24) (hv : isNaN v = false) (h : value v < 0) :
    delayClamp v d = (0, flagCLAMP) := by
  rw [delayClamp_of_not_isNaN hd hv, if_pos h]

theorem delayClamp_of_dmax_lt {v : Word} {d : DlUnit} (hd : d.dmax < 2 ^ 24) (hv : isNaN v = false)
    (h : d.dmax < value v) : delayClamp v d = (toF32 d.dmax, flagRSRC) := by
  rw [delayClamp_of_not_isNaN hd hv, if_neg ((Nat.cast_nonneg _).trans h.le).not_gt, if_pos h]

theorem delayClamp_of_legal {v : Word} {d : DlUnit} (hd : d.dmax < 2 ^ 24) (hv : isNaN v = false) (h0 : 0 ≤ value v)
    (h : value v ≤ d.dmax) : delayClamp v d = (v, 0) := by
  rw [delayClamp_of_not_isNaN hd hv, if_neg h0.not_gt, if_neg h.not_gt]

/-! ### The split of a legal delay (R292) -/

theorem delayInt_eq_floor {v : Word} (h : 0 ≤ value v) : delayInt v = ⌊value v⌋₊ := by
  rw [value_of_sunits (sunits_of_value_nonneg h), delayInt, ← Nat.floor_div_eq_div (K := ℚ)]
  push_cast
  rfl

/-- What is left of a finite magnitude above its integer part is again the magnitude of a word. -/
theorem exists_units_eq_mod {v : Word} (hv : isFinite v = true) :
    ∃ w, FiniteNonneg w ∧ units w = units v % 2 ^ 149 := by
  have hfrac : fracField v < 2 ^ 23 := Nat.mod_lt _ (by norm_num)
  by_cases hexp : 127 ≤ expField v
  case pos =>
    obtain ⟨t, ht⟩ := Nat.exists_eq_add_of_le hexp
    have hunits : units v = (2 ^ 23 + fracField v) * 2 ^ t * 2 ^ 126 := by
      rw [units, if_neg (by omega), ht, show 127 + t - 1 = t + 126 by omega, pow_add, mul_assoc]
    obtain ⟨w, hw, hmod⟩ := exists_units_eq_mul_two_pow (e := 126) (j := (2 ^ 23 + fracField v) * 2 ^ t % 2 ^ 23)
      (by norm_num) ((Nat.mod_lt _ (by norm_num)).trans (by norm_num))
    refine ⟨w, hw, ?_⟩
    rw [hmod, hunits, ← Nat.mul_mod_mul_right, ← pow_add]
  case neg =>
    refine ⟨fabs v, ⟨by simpa using hv, sign_fabs v⟩, ?_⟩
    rw [units_fabs, Nat.mod_eq_of_lt]
    unfold units
    split
    · exact hfrac.trans (by norm_num)
    · calc (2 ^ 23 + fracField v) * 2 ^ (expField v - 1)
          < 2 ^ 24 * 2 ^ (expField v - 1) := Nat.mul_lt_mul_of_pos_right (by omega) (Nat.two_pow_pos _)
        _ ≤ 2 ^ 24 * 2 ^ 125 := Nat.mul_le_mul_left _ (Nat.pow_le_pow_right (by norm_num) (by omega))
        _ = 2 ^ 149 := by norm_num

/-- The subtraction that gives the fraction of a delay is exact. -/
theorem delayFrac_exact {v : Word} (hv : isFinite v = true) (h0 : 0 ≤ value v) (hk : delayInt v < 2 ^ 24) :
    isFinite (delayFrac v) = true ∧ sunits (delayFrac v) = (units v % 2 ^ 149 : Nat) := by
  obtain ⟨w, hw, hmod⟩ := exists_units_eq_mod hv
  obtain ⟨⟨hkfin, hksign⟩, hkunits⟩ := toF32_exact hk
  rw [← hmod]
  refine fadd_exact hv (by rwa [isFinite_fneg]) hw ?_
  have hsplit := Nat.div_add_mod (units v) (2 ^ 149)
  rw [sunits_fneg, sunits_of_value_nonneg h0, sunits_of_sign_false hksign, hkunits, hmod, delayInt]
  omega

theorem value_delayFrac {v : Word} (hv : isFinite v = true) (h0 : 0 ≤ value v) (hk : delayInt v < 2 ^ 24) :
    value (delayFrac v) = value v - delayInt v := by
  have hsplit : ((2 ^ 149 * delayInt v + units v % 2 ^ 149 : Nat) : ℚ) = units v :=
    congrArg Nat.cast (Nat.div_add_mod (units v) (2 ^ 149))
  rw [value_of_sunits (delayFrac_exact hv h0 hk).2, value_of_sunits (sunits_of_value_nonneg h0), ← hsplit]
  push_cast
  ring

/-- Settles O35: DelayClamp compares exact values, DMAX being exact; the integer part is a floor and the fraction's
subtraction is exact. -/
theorem delayOperandIsClampedAndSplit : Obligations.DelayOperandIsClampedAndSplit := by
  intro v d words hwords hinv
  have hd := hinv.dmax_lt hwords
  have hmaxfin := (toF32_exact hd).1.1
  refine ⟨value_toF32 hd, delayClamp_of_isNaN d, ?_, ?_, fun hv h0 hmax => ?_⟩
  · rintro (rfl | ⟨hv, hneg⟩)
    · exact delayClamp_of_neg hd (by decide) (by decide +kernel)
    · exact delayClamp_of_neg hd (not_nan_inf_of_finite hv).1 hneg
  · rintro (rfl | ⟨hv, hgt⟩)
    · exact delayClamp_of_dmax_lt hd (by decide) (value_toF32 hd ▸ value_lt_posInf hmaxfin)
    · exact delayClamp_of_dmax_lt hd (not_nan_inf_of_finite hv).1 hgt
  · have hfloor := delayInt_eq_floor h0
    have hk : delayInt v ≤ d.dmax := hfloor ▸ Nat.floor_le_of_le hmax
    have hk24 := hk.trans_lt hd
    refine ⟨delayClamp_of_legal hd (not_nan_inf_of_finite hv).1 h0 hmax, hk, ?_, ?_,
      (delayFrac_exact hv h0 hk24).1, value_delayFrac hv h0 hk24⟩
    · exact hfloor ▸ Nat.floor_le h0
    · exact hfloor ▸ Nat.lt_floor_add_one _

/-! ### Reads at an integer delay (R304) -/

theorem lin_of_isZero {m : Mem} {d : DlUnit} {v : Word} (h : isZero (delayFrac v) = true) :
    lin m d v = tap m d (delayInt v) := if_pos h

theorem cub_of_isZero {m : Mem} {d : DlUnit} {v : Word} (h : isZero (delayFrac v) = true) :
    cub m d v = tap m d (delayInt v) := if_pos h

/-- An operand whose exact value is the integer k: toF32 of k, or -0.0 for 0. -/
theorem integerDelay_split {v : Word} {k : Nat} (hk : k < 2 ^ 24) (hv : v = toF32 k ∨ (k = 0 ∧ v = 0x80000000)) :
    isFinite v = true ∧ value v = k ∧ delayInt v = k ∧ isZero (delayFrac v) = true := by
  have hexact : isFinite v = true ∧ value v = k ∧ units v = k * 2 ^ 149 := by
    rcases hv with rfl | ⟨rfl, rfl⟩
    · exact ⟨(toF32_exact hk).1.1, value_toF32 hk, (toF32_exact hk).2⟩
    · decide +kernel
  obtain ⟨hfin, hvalue, hunits⟩ := hexact
  have hint : delayInt v = k := by rw [delayInt, hunits, Nat.mul_div_cancel _ (Nat.two_pow_pos _)]
  refine ⟨hfin, hvalue, hint, isZero_of_sunits_eq_zero ?_⟩
  rw [(delayFrac_exact hfin (hvalue ▸ Nat.cast_nonneg k) (hint ▸ hk)).2, hunits, Nat.mul_mod_left, Nat.cast_zero]

/-- Settles O40: an integer delay is legal and has no fraction, so both interpolators return the tap, which is
finite. -/
theorem integerDelayReadsExactly : Obligations.IntegerDelayReadsExactly := by
  intro rd ra u s k hlegal hu hprepared hinv hfinite hk hoperand d stored
  have hd : d.dmax < 2 ^ 24 := hinv.dmax_lt hlegal.dmemWords.2.1
  obtain ⟨hv, hvalue, hint, hzero⟩ := integerDelay_split (hk.trans_lt hd) hoperand
  have hclamp : delayClamp (s.reg ra) d = (s.reg ra, 0) := by
    refine delayClamp_of_legal hd (not_nan_inf_of_finite hv).1 ?_ ?_ <;> rw [hvalue]
    · exact Nat.cast_nonneg k
    · exact Nat.cast_le.mpr hk
  have hstored : sanitize (tap s.dmem d k) = (stored, 0) := sanitize_of_finite (Mem.read_finite hfinite _)
  have hlin := completes_of_delayRead (exec_dlrdl rd ra u s) rfl rfl hu hprepared hinv
  have hcub := completes_of_delayRead (exec_dlrdc rd ra u s) rfl rfl hu hprepared hinv
  simp only [show s.dlAt u = d from rfl, hclamp, lin_of_isZero hzero, cub_of_isZero hzero, hint, hstored] at hlin hcub
  exact ⟨hlin, hcub⟩

end Sys2Proof.Machine

namespace Sys2Proof.Machine

/-! ### What an envelope command writes: a register, a unit, flags (R53, R67, R126) -/

theorem keepsExcept_setEnv (s : State) (u : UnitIx) (x : EnvUnit) : KeepsExcept [.env] s (s.setEnv u x) := by
  refine ⟨⟨by simp, rfl, rfl, rfl, rfl, rfl, rfl, rfl⟩, fun k hk => ?_⟩
  cases k
  case env => simp at hk
  all_goals rfl

theorem KeepsExcept.flag {banks : List Bank} {s t : State} (h : KeepsExcept banks s t) (w : Word) (f : FlagSet) :
    KeepsExcept banks s (t.flag w f) := by
  obtain ⟨hglobal, hbanks⟩ := h
  refine ⟨⟨hglobal.params, hglobal.irqen, hglobal.sr, hglobal.maxblk, hglobal.prepared, hglobal.pending, hglobal.ci,
    hglobal.seen⟩, fun k hk => ?_⟩
  have hsame := hbanks k hk
  cases k <;> exact hsame

theorem onlyEnv_setEnv (s : State) (u : UnitIx) (x : EnvUnit) : OnlyEnv u s (s.setEnv u x) :=
  fun v hv => s.envAt_setEnv_ne u v x hv

theorem State.envAt_setEnv_self {s : State} {u : UnitIx} (hu : u.val < s.env.length) (x : EnvUnit) :
    (s.setEnv u x).envAt u = x := by simp [hu]

section
variable {i : Instr} {s : State} {u : UnitIx} {x : EnvUnit} {f : FlagSet} {body : Word → Out}

/-- A legal command that replaces an existing envelope unit and flags completes on a prepared core. -/
theorem completes_of_setEnv (hexec : exec i s = frame i s body) (hwf : i.wf s.params = true)
    (hprepared : s.prepared = true) (hu : u.val < s.env.length)
    (hbody : body (encode i) = .next ((s.setEnv u x).flag (encode i) f)) :
    Completes i s f [.env] fun t => SameRegs s t ∧ OnlyEnv u s t ∧ t.envAt u = x :=
  completes_of_frame hexec hwf hprepared hbody ⟨rfl, rfl⟩ ((keepsExcept_setEnv s u x).flag (encode i) f)
    ⟨fun _ => rfl, onlyEnv_setEnv s u x, State.envAt_setEnv_self hu x⟩

/-- A legal command that replaces an existing envelope unit, writes a data register and flags completes on a prepared
core. -/
theorem completes_of_setEnv_setReg {rd : Reg} {v : Word} (hexec : exec i s = frame i s body)
    (hwf : i.wf s.params = true) (hprepared : s.prepared = true) (hu : u.val < s.env.length)
    (hbody : body (encode i) = .next (((s.setEnv u x).setReg rd v).flag (encode i) f)) :
    Completes i s f [.env] fun t => Writes rd v s t ∧ OnlyEnv u s t ∧ t.envAt u = x :=
  completes_of_frame hexec hwf hprepared hbody ⟨rfl, rfl⟩ ((keepsExcept_setEnv s u x).setReg_flag rd v (encode i) f)
    ⟨writes_setReg (s.setEnv u x) rd v, onlyEnv_setEnv s u x, State.envAt_setEnv_self hu x⟩

end

/-! ### The envelope commands as framed commands (R337 to R343) -/

theorem exec_envcfg (pol : Policy) (det : Detector) (u : UnitIx) (s : State) :
    exec (.envcfg pol det u) s = frame (.envcfg pol det u) s fun _ =>
      .next (s.setEnv u { (s.envAt u).clearRms with pol := pol, det := det }) := rfl

theorem exec_envatk (rd ra : Reg) (u : UnitIx) (s : State) :
    exec (.envatk rd ra u) s = frame (.envatk rd ra u) s fun w =>
      if (s.envAt u).rta = s.reg ra ∧ (s.envAt u).cfsa = s.sr then .next (s.setReg rd 0)
      else
        let c := envCoef s.sr (s.reg ra)
        let e := { s.envAt u with rta := s.reg ra, ac := c.1.1, ag := c.1.2, cfsa := s.sr }
        .next (((s.setEnv u e).setReg rd 1).flag w c.2) := rfl

theorem exec_envrel (rd ra : Reg) (u : UnitIx) (s : State) :
    exec (.envrel rd ra u) s = frame (.envrel rd ra u) s fun w =>
      if (s.envAt u).rtr = s.reg ra ∧ (s.envAt u).cfsr = s.sr then .next (s.setReg rd 0)
      else
        let c := envCoef s.sr (s.reg ra)
        let e := { s.envAt u with rtr := s.reg ra, rc := c.1.1, rg := c.1.2, cfsr := s.sr }
        .next (((s.setEnv u e).setReg rd 1).flag w c.2) := rfl

theorem exec_envwin (ra : Reg) (u : UnitIx) (s : State) :
    exec (.envwin ra u) s = frame (.envwin ra u) s fun w =>
      let n := winSamples s.limits.rmsWinMax s.sr (s.reg ra)
      .next ((s.setEnv u { (s.envAt u).clearRms with rwin := s.reg ra, w := n.1 }).flag w n.2) := rfl

theorem exec_envproc (rd ra : Reg) (u : UnitIx) (s : State) :
    exec (.envproc rd ra u) s = frame (.envproc rd ra u) s fun w =>
      let x := s.sample ra
      let d := detect (s.envAt u) x.1
      let f := follow d.2.1 d.1
      .next (((s.setEnv u f.1).setReg rd f.1.level).flag w (x.2 ||| d.2.2 ||| f.2)) := rfl

theorem exec_envdb (rd ra : Reg) (s : State) :
    exec (.envdb rd ra) s = frame (.envdb rd ra) s fun w =>
      let v := s.sample ra
      let m := if fLt fEpsDb v.1 then v.1 else fEpsDb
      .next (s.putSample w rd (fmul f20 (log10_32 m)) v.2) := rfl

theorem exec_envclr (u : UnitIx) (s : State) :
    exec (.envclr u) s = frame (.envclr u) s fun _ => .next (s.setEnv u (s.envAt u).clear) := rfl

/-- Settles O43: each of the three commands only replaces its unit, by one whose RMS state is cleared. -/
theorem envelopeConfigurationCompletes : Obligations.EnvelopeConfigurationCompletes := by
  intro pol det ra u s e win
  refine ⟨obeysFrame_of_frame rfl (exec_envcfg ..), obeysFrame_of_frame rfl (exec_envwin ..),
    obeysFrame_of_frame rfl (exec_envclr ..), fun hu hprepared => ⟨?_, ?_, ?_⟩⟩
  · exact completes_of_setEnv (exec_envcfg ..) (Instr.wf_of_unit rfl hu rfl) hprepared hu
      (by rw [State.flag_zero]; rfl)
  · exact completes_of_setEnv (exec_envwin ..) (Instr.wf_of_unit rfl hu rfl) hprepared hu rfl
  · exact completes_of_setEnv (exec_envclr ..) (Instr.wf_of_unit rfl hu rfl) hprepared hu
      (by rw [State.flag_zero]; rfl)

/-- Settles O44: both commands branch on the comparison of the raw word and the rate with the stored ones. -/
theorem envelopeTimesRecomputeOnlyOnChange : Obligations.EnvelopeTimesRecomputeOnlyOnChange := by
  intro rd ra u s e c
  refine ⟨obeysFrame_of_frame rfl (exec_envatk ..), obeysFrame_of_frame rfl (exec_envrel ..),
    fun hu hprepared => ⟨fun hsame => ?_, fun hchanged => ?_, fun hsame => ?_, fun hchanged => ?_⟩⟩
  · exact completes_of_setReg (exec_envatk ..) (Instr.wf_of_unit rfl hu rfl) hprepared (if_pos hsame)
  · exact completes_of_setEnv_setReg (exec_envatk ..) (Instr.wf_of_unit rfl hu rfl) hprepared hu (if_neg hchanged)
  · exact completes_of_setReg (exec_envrel ..) (Instr.wf_of_unit rfl hu rfl) hprepared (if_pos hsame)
  · exact completes_of_setEnv_setReg (exec_envrel ..) (Instr.wf_of_unit rfl hu rfl) hprepared hu (if_neg hchanged)

/-! ### The detector and the follower (R334, R336) -/

theorem detect_of_peak {e : EnvUnit} (h : e.det = .peak) (x : Word) : detect e x = (fabs x, e, 0) := by
  simp only [detect, h]

theorem detect_of_rms {e : EnvUnit} (h : e.det = .rms) (x : Word) :
    detect e x = ((e.pushSquare x).1.rms, e.pushSquare x) := by
  simp only [detect, h]

/-- The sum of the squares in the window once the square `sq` enters and the oldest leaves (R334). -/
def EnvUnit.nextSum (e : EnvUnit) (sq : Word) : Word := fsub (fadd e.sum sq) (e.ring.read e.ridx)

/-- The root of the mean of a window of w squares that sum to `total`, the mean held at +0 (R334). -/
def rootOfMean (w : Nat) (total : Word) : Word :=
  fsqrt (if fLt 0 (fdiv total (toF32 w)) then fdiv total (toF32 w) else 0)

section
variable {e : EnvUnit} {x : Word}

theorem EnvUnit.rms_eq : e.rms = rootOfMean e.w e.sum := rfl

theorem EnvUnit.pushSquare_eq :
    let sq := sanitize (fmul x x)
    e.pushSquare x = if isFinite (e.nextSum sq.1) then
        ({ e with ring := e.ring.write e.ridx sq.1, ridx := (e.ridx + 1) % e.w, sum := e.nextSum sq.1 }, sq.2)
      else (e.clearRms, sq.2 ||| flagNUM) := rfl

/-- RMS mode with a finite sum: the square enters the ring. -/
theorem detect_of_isFinite (hdet : e.det = .rms) (hsum : isFinite (e.nextSum (sanitize (fmul x x)).1) = true) :
    let sq := sanitize (fmul x x)
    detect e x = (rootOfMean e.w (e.nextSum sq.1),
      { e with ring := e.ring.write e.ridx sq.1, ridx := (e.ridx + 1) % e.w, sum := e.nextSum sq.1 }, sq.2) := by
  intro sq
  rw [detect_of_rms hdet, EnvUnit.pushSquare_eq, if_pos hsum, EnvUnit.rms_eq]

/-- RMS mode with a sum that is not finite: the RMS state is cleared. -/
theorem detect_of_not_isFinite (hdet : e.det = .rms) (hsum : isFinite (e.nextSum (sanitize (fmul x x)).1) = false) :
    detect e x = (rootOfMean e.w 0, e.clearRms, (sanitize (fmul x x)).2 ||| flagNUM) := by
  rw [detect_of_rms hdet, EnvUnit.pushSquare_eq, hsum, if_neg Bool.false_ne_true, EnvUnit.rms_eq]
  rfl

end

/-- R336 as one expression: the policy matters only while the level rises. -/
theorem EnvUnit.target_eq (v : EnvUnit) (e : Word) :
    v.target e = if fLt v.level e then
        (if v.pol = .instantAttack then e else fadd (fmul v.ac v.level) (fmul v.ag e))
      else fadd (fmul v.rc v.level) (fmul v.rg e) := by
  simp only [EnvUnit.target, onePole]
  cases v.pol
  case instantAttack => simp only [if_true]
  case smoothedAttack => simp only [reduceCtorEq, if_false]

/-- ENVPROC on an existing unit completes with the level that follows what the detector gives. -/
theorem completes_envproc {rd ra : Reg} {u : UnitIx} {s : State} {e : Word} {v : EnvUnit} {f : FlagSet}
    (hu : u.val < s.env.length) (hprepared : s.prepared = true)
    (hdetect : detect (s.envAt u) (s.sample ra).1 = (e, v, f)) :
    Completes (.envproc rd ra u) s ((s.sample ra).2 ||| f ||| (sanitize (v.target e)).2) [.env] fun t =>
      Writes rd (sanitize (v.target e)).1 s t ∧ OnlyEnv u s t ∧
      t.envAt u = { v with level := (sanitize (v.target e)).1 } :=
  completes_of_setEnv_setReg (exec_envproc ..) (Instr.wf_of_unit rfl hu rfl) hprepared hu
    (by simp only [hdetect]; rfl)

/-- Settles O45: what the detector gives in peak mode, in RMS mode and on a non-finite sum, followed. -/
theorem envelopeProcessesOneSample : Obligations.EnvelopeProcessesOneSample := by
  intro rd ra u s i v x sq sum root follow peakLevel rmsLevel clearedLevel
  refine ⟨obeysFrame_of_frame rfl (exec_envproc ..), fun hu hprepared =>
    ⟨fun hdet => ?_, fun hdet hsum => ?_, fun hdet hsum => ?_⟩⟩
  · have h := completes_envproc (rd := rd) hu hprepared (detect_of_peak hdet (s.sample ra).1)
    rw [BitVec.ofNat_eq_ofNat, BitVec.or_zero, EnvUnit.target_eq] at h
    exact h
  · have h := completes_envproc (rd := rd) hu hprepared (detect_of_isFinite hdet hsum)
    rw [EnvUnit.target_eq] at h
    exact h
  · have h := completes_envproc (rd := rd) hu hprepared (detect_of_not_isFinite hdet hsum)
    rw [EnvUnit.target_eq, ← BitVec.or_assoc] at h
    exact h

/-! ### ENVDB (R342; R14: P-LOG-FINITE) -/

theorem log10_32_isFinite {v : Word} (hv : isFinite v = true) (hle : value fEpsDb ≤ value v) :
    isFinite (log10_32 v) = true := by
  have hfloor : fLe fEpsDb v = true := fLe_iff_value.mpr ⟨by decide, (not_nan_inf_of_finite hv).1, hle⟩
  simp only [log10_32, hv, hfloor, Bool.true_and, Bool.not_eq_true']
  split
  case isTrue => decide
  case isFalse hraw => exact Bool.eq_true_of_not_eq_false hraw

/-- The level ENVDB converts, floored at EPS_DB by exact value. -/
theorem floor_fEpsDb {v : Word} (hv : isFinite v = true) :
    (if fLt fEpsDb v then v else fEpsDb) = if value fEpsDb < value v then v else fEpsDb := by
  simp only [fLt_iff_value, (not_nan_inf_of_finite hv).1, show isNaN fEpsDb = false by decide, true_and]

theorem completes_envdb {rd ra : Reg} {s : State} {m : Word} (hprepared : s.prepared = true)
    (hm : (if fLt fEpsDb (s.sample ra).1 then (s.sample ra).1 else fEpsDb) = m) :
    let y := sanitize (fmul f20 (log10_32 m))
    Completes (.envdb rd ra) s ((s.sample ra).2 ||| y.2) [] fun t =>
      Writes rd y.1 s t ∧ isFinite (t.reg rd) = true := by
  subst hm
  refine (completes_of_putSample (exec_envdb ..) rfl hprepared).imp fun t hwrites => ⟨hwrites, ?_⟩
  rw [hwrites.1]
  exact sanitize_finite _

/-- Settles O47: ENVDB puts one sample, its argument floored by exact value, where P-LOG-FINITE applies. -/
theorem decibelConversionIsFloored : Obligations.DecibelConversionIsFloored := by
  intro rd ra s v floored
  have hv : isFinite v.1 = true := sanitize_finite _
  refine ⟨obeysFrame_of_frame rfl (exec_envdb ..), fun hprepared => ⟨fun habove => ⟨?_, ?_⟩, fun hbelow => ⟨?_, ?_⟩⟩⟩
  · exact completes_envdb hprepared ((floor_fEpsDb hv).trans (if_pos habove))
  · exact log10_32_isFinite hv habove.le
  · exact completes_envdb hprepared ((floor_fEpsDb hv).trans (if_neg hbelow.not_gt))
  · exact log10_32_isFinite rfl le_rfl

end Sys2Proof.Machine

namespace Sys2Proof.Machine

/-! ### Products and quotients of words of sign + keep order (R10) -/

theorem units_le_units_iff_toNat {a b : Word} (ha : FiniteNonneg a) (hb : FiniteNonneg b) :
    units a ≤ units b ↔ a.toNat ≤ b.toNat := by
  rw [units_le_units_iff ha.1 hb.1, toNat_mod_of_sign_false ha.2, toNat_mod_of_sign_false hb.2]

theorem toNat_fmul_le {a a' b b' : Word} (ha : FiniteNonneg a) (ha' : FiniteNonneg a') (hb : FiniteNonneg b)
    (hb' : FiniteNonneg b') (haa' : a.toNat ≤ a'.toNat) (hbb' : b.toNat ≤ b'.toNat) :
    (fmul a b).toNat ≤ (fmul a' b').toNat := by
  rw [toNat_fmul_of_finiteNonneg ha hb, toNat_fmul_of_finiteNonneg ha' hb']
  exact roundMag_mono (Nat.two_pow_pos _)
    (Nat.mul_le_mul ((units_le_units_iff_toNat ha ha').mpr haa') ((units_le_units_iff_toNat hb hb').mpr hbb'))

theorem units_eq_zero_of_isZero {w : Word} (h : isZero w = true) : units w = 0 := by
  simp only [isZero, Bool.and_eq_true, beq_iff_eq] at h
  simp [units, h]

/-- A quotient of finite words is the rounded exact quotient, its sign the XOR of the signs. -/
theorem fdiv_of_isFinite {a b : Word} (ha : isFinite a = true) (hb : isFinite b = true) (hpos : 0 < units b) :
    fdiv a b = signed (a.sign != b.sign) (roundMag (units a * 2 ^ 149) (units b)) := by
  have hzero : isZero b = false :=
    Bool.eq_false_of_not_eq_true fun h => hpos.ne' (units_eq_zero_of_isZero h)
  simp [fdiv, not_nan_inf_of_finite ha, not_nan_inf_of_finite hb, hzero]

theorem toNat_fdiv_of_finiteNonneg {a b : Word} (ha : FiniteNonneg a) (hb : FiniteNonneg b) (hpos : 0 < units b) :
    (fdiv a b).toNat = roundMag (units a * 2 ^ 149) (units b) := by
  simp [fdiv_of_isFinite ha.1 hb.1 hpos, ha.2, hb.2, signed_toNat false (roundMag_lt _ _)]

theorem toNat_fdiv_mono {a b c : Word} (ha : FiniteNonneg a) (hb : FiniteNonneg b) (hc : FiniteNonneg c)
    (hpos : 0 < units c) (h : a.toNat ≤ b.toNat) : (fdiv a c).toNat ≤ (fdiv b c).toNat := by
  rw [toNat_fdiv_of_finiteNonneg ha hc hpos, toNat_fdiv_of_finiteNonneg hb hc hpos]
  exact roundMag_mono hpos (Nat.mul_le_mul_right _ ((units_le_units_iff_toNat ha hb).mpr h))

theorem units_le_of_value_le {a b : Word} (ha : 0 ≤ value a) (h : value a ≤ value b) : units a ≤ units b := by
  have hb := ha.trans h
  rwa [value_le_value_iff, sunits_of_value_nonneg ha, sunits_of_value_nonneg hb, Int.ofNat_le] at h

theorem value_mul_two_pow_of_nonneg {w : Word} (h : 0 ≤ value w) : value w * (2 ^ 149 : Nat) = units w := by
  rw [value_of_sunits (sunits_of_value_nonneg h), Nat.cast_pow, Nat.cast_ofNat]
  exact div_mul_cancel₀ _ (by positivity)

/-- A word of value above 0 has sign +. -/
theorem sign_false_of_value_pos {w : Word} (h : 0 < value w) : w.sign = false :=
  Bool.eq_false_of_not_eq_true fun hs => (value_nonpos_of_sign_true hs).not_gt h

/-! ### A clamped word is finite and in its row (R13) -/

theorem units_of_isInf {w : Word} (h : isInf w = true) : units w = units 0x7F800000 := by
  simp only [isInf, Bool.and_eq_true, beq_iff_eq] at h
  rw [units, h.1, h.2]
  rfl

/-- A word that is no NaN and lies between finite words is finite. -/
theorem isFinite_of_between {a b v : Word} (ha : isFinite a = true) (hb : isFinite b = true) (hv : isNaN v = false)
    (hav : value a ≤ value v) (hvb : value v ≤ value b) : isFinite v = true := by
  by_contra hfin
  have hinf : isInf v = true := by
    simp only [isFinite, isNaN, isInf, bne_iff_ne, not_not, Bool.and_eq_false_iff, beq_eq_false_iff_ne,
      bne_eq_false_iff_eq, Bool.and_eq_true, beq_iff_eq] at hfin hv ⊢
    omega
  rw [value_le_value_iff] at hav hvb
  have hua := units_lt_units_posInf ha
  have hub := units_lt_units_posInf hb
  have habs := abs_sunits v
  have hle := (abs_le.mp (abs_sunits a).le).1
  have hge := (abs_le.mp (abs_sunits b).le).2
  rw [units_of_isInf hinf] at habs
  rcases abs_choice (sunits v) with h | h <;> omega

/-- `v` is finite and in the range of row p. -/
structure ClampRow.Has (p : ClampRow) (v : Word) : Prop where
  finite : isFinite v = true
  lo : value p.lo ≤ value v
  hi : value v ≤ value p.hi

theorem ClampRow.Ordered.has_clampP {p : ClampRow} (hp : p.Ordered) (hnan : p.Has p.nan) (v : Word) :
    p.Has (clampP v p).1 := by
  cases hv : isNaN v
  case true => rwa [clampP_of_isNaN hv]
  case false =>
    rcases lt_or_ge (value v) (value p.lo) with hlo | hlo
    · rw [clampP_of_lt_lo hp hv hlo]
      exact ⟨hp.lo, le_rfl, hp.le⟩
    rcases lt_or_ge (value p.hi) (value v) with hhi | hhi
    · rw [clampP_of_hi_lt hp hv hhi]
      exact ⟨hp.hi, hp.le, le_rfl⟩
    · rw [clampP_of_mem hp hv hlo hhi]
      exact ⟨isFinite_of_between hp.lo hp.hi hv hlo hhi, hlo, hhi⟩

theorem rowTAU_has_clampP (v : Word) : rowTAU.Has (clampP v rowTAU).1 :=
  ClampRow.Ordered.has_clampP ⟨rfl, rfl, by decide +kernel⟩ ⟨rfl, by decide +kernel, by decide +kernel⟩ v

/-- The windows of row WIN are times of row TAU. -/
theorem rowTAU_has_clampP_rowWIN (v : Word) : rowTAU.Has (clampP v rowWIN).1 := by
  obtain ⟨hfin, hlo, hhi⟩ : rowWIN.Has (clampP v rowWIN).1 :=
    ClampRow.Ordered.has_clampP ⟨rfl, rfl, by decide +kernel⟩ ⟨rfl, by decide +kernel, by decide +kernel⟩ v
  exact ⟨hfin, hlo.trans' (by decide +kernel), hhi.trans (by decide +kernel)⟩

/-! ### Times in samples (R332, R333) -/

/-- At a prepared rate a time of row TAU is a positive finite number of samples. -/
theorem samples_pos {t sr : Word} (ht : rowTAU.Has t) (hlo : fLe rowFS.lo sr = true) (hhi : fLe sr rowFS.hi = true) :
    FiniteNonneg (fdiv (fmul t sr) f1000) ∧ 0 < value (fdiv (fmul t sr) f1000) := by
  have tauLo : FiniteNonneg rowTAU.lo := ⟨by decide, by decide⟩
  have tauHi : FiniteNonneg rowTAU.hi := ⟨by decide, by decide⟩
  have thousand : FiniteNonneg f1000 := ⟨by decide, by decide⟩
  have htime : FiniteNonneg t := ⟨ht.finite, sign_false_of_value_pos (ht.lo.trans_lt' (by decide +kernel))⟩
  obtain ⟨hsr, hmin, hmax⟩ := finiteNonneg_of_mem_rowFS hlo hhi
  have hge := toNat_fmul_le tauLo htime finiteNonneg_rowFS.1 hsr
    ((value_le_value_iff_toNat tauLo htime).mp ht.lo) hmin
  have hle := toNat_fmul_le htime tauHi hsr finiteNonneg_rowFS.2
    ((value_le_value_iff_toNat htime tauHi).mp ht.hi) hmax
  have least : FiniteNonneg (fmul rowTAU.lo rowFS.lo) := ⟨by decide +kernel, by decide +kernel⟩
  have greatest : FiniteNonneg (fmul rowTAU.hi rowFS.hi) := ⟨by decide +kernel, by decide +kernel⟩
  have hproduct : FiniteNonneg (fmul t sr) :=
    finiteNonneg_iff_toNat_lt.mpr (hle.trans_lt (finiteNonneg_iff_toNat_lt.mp greatest))
  have hquotient : FiniteNonneg (fdiv (fmul t sr) f1000) :=
    finiteNonneg_iff_toNat_lt.mpr
      ((toNat_fdiv_mono hproduct greatest thousand (by decide +kernel) hle).trans_lt (by decide +kernel))
  refine ⟨hquotient, lt_of_lt_of_le (b := value (fdiv (fmul rowTAU.lo rowFS.lo) f1000)) (by decide +kernel) ?_⟩
  rw [value_le_value_iff_toNat ⟨by decide +kernel, by decide +kernel⟩ hquotient]
  exact toNat_fdiv_mono least hproduct thousand (by decide +kernel) hge

/-! ### Counts rounded to the nearest integer (R11, R333, R370) -/

theorem rte_nearest_int {n d : Nat} (hd : 0 < d) :
    2 * |(n : Int) - rte n d * d| ≤ d ∧ (2 * |(n : Int) - rte n d * d| = d → rte n d % 2 = 0) := by
  have hsplit := Nat.div_add_mod n d
  have hmod := Nat.mod_lt n hd
  simp only [rte]
  generalize n / d = q at *
  generalize n % d = r at *
  subst hsplit
  split
  case isTrue hup =>
    have : ((d * q + r : Nat) : Int) - (q + 1 : Nat) * d = r - d := by push_cast; ring
    rw [this, abs_of_nonpos (by omega)]
    omega
  case isFalse hdown =>
    have : ((d * q + r : Nat) : Int) - q * d = r := by push_cast; ring
    rw [this, abs_of_nonneg (by omega)]
    omega

/-- `rte` rounds the number n / d to the nearest integer, ties to even. -/
theorem rte_nearest {n d : Nat} {x : ℚ} (hd : 0 < d) (hx : x * d = n) :
    |x - rte n d| ≤ 1 / 2 ∧ (|x - rte n d| = 1 / 2 → rte n d % 2 = 0) := by
  have hpos : (0 : ℚ) < d := Nat.cast_pos.mpr hd
  obtain ⟨hle, htie⟩ := rte_nearest_int (n := n) hd
  have hscale : 2 * |x - rte n d| * d = ((2 * |(n : Int) - rte n d * d| : Int) : ℚ) := by
    push_cast
    rw [← hx, ← sub_mul, abs_mul, abs_of_pos hpos, mul_assoc]
  refine ⟨?_, fun h => htie ?_⟩
  · have : 2 * |x - rte n d| * d ≤ 1 * d := by rw [hscale, one_mul]; exact_mod_cast hle
    have := le_of_mul_le_mul_right this hpos
    linarith
  · have : ((2 * |(n : Int) - rte n d * d| : Int) : ℚ) = d := by rw [← hscale, h]; ring
    exact_mod_cast this

theorem winSamples_nearest {limit : Nat} {sr raw : Word}
    (h : 0 ≤ value (fdiv (fmul (clampP raw rowWIN).1 sr) f1000)) :
    let samples := fdiv (fmul (clampP raw rowWIN).1 sr) f1000
    ∃ n : Nat, |value samples - n| ≤ 1 / 2 ∧ (|value samples - n| = 1 / 2 → n % 2 = 0) ∧
      (winSamples limit sr raw).1 = min (max n 1) limit ∧
      (winSamples limit sr raw).2 = (clampP raw rowWIN).2 ||| (if limit < max n 1 then flagRSRC else 0) := by
  intro samples
  obtain ⟨hle, htie⟩ := rte_nearest (Nat.two_pow_pos _) (value_mul_two_pow_of_nonneg h)
  refine ⟨rte (units samples) (2 ^ 149), hle, htie, rfl, ?_⟩
  simp only [winSamples, flagIf, decide_eq_true_eq, samples]

theorem lfoInc_nearest {sr raw : Word} (h : 0 ≤ value (fdiv (clampP raw (rowLFOF sr)).1 sr)) :
    let ratio := fdiv (clampP raw (rowLFOF sr)).1 sr
    ∃ n : Nat, |value ratio * 2 ^ 32 - n| ≤ 1 / 2 ∧ (|value ratio * 2 ^ 32 - n| = 1 / 2 → n % 2 = 0) ∧
      (lfoInc sr raw).1.toNat = min n (2 ^ 31) ∧ (lfoInc sr raw).2 = (clampP raw (rowLFOF sr)).2 := by
  intro ratio
  have hx : value ratio * 2 ^ 32 * (2 ^ 149 : Nat) = (units ratio * 2 ^ 32 : Nat) := by
    rw [mul_right_comm, value_mul_two_pow_of_nonneg h, Nat.cast_mul, Nat.cast_pow, Nat.cast_ofNat]
  obtain ⟨hle, htie⟩ := rte_nearest (Nat.two_pow_pos _) hx
  refine ⟨rte (units ratio * 2 ^ 32) (2 ^ 149), hle, htie, ?_, rfl⟩
  exact (BitVec.toNat_ofNat _ _).trans (Nat.mod_eq_of_lt (by omega))

/-! ### The LFO frequency over the rate (R370) -/

theorem roundMag_self_ratio {d : Nat} (hd : 0 < d) : roundMag (d * 2 ^ 149) d = 0x3F800000 := by
  have hone : units f1 = 2 ^ 149 := by decide +kernel
  rw [Nat.mul_comm, ← hone]
  exact roundMag_units (by decide) hd

theorem roundMag_zero {d : Nat} (hd : 0 < d) : roundMag 0 d = 0 := by
  have h := roundMag_units (w := 0) (by decide) hd
  rw [show units 0 = 0 from rfl, Nat.zero_mul] at h
  exact h

/-- Half a rate is at most the rate. -/
theorem units_half_rate_le {sr : Word} (hsr : FiniteNonneg sr) (hfin : isFinite (fmul fHalf sr) = true) :
    units (fmul fHalf sr) ≤ units sr := by
  have half : FiniteNonneg fHalf := ⟨by decide, by decide⟩
  rw [units_le_units_iff hfin hsr.1, toNat_fmul_of_finiteNonneg half hsr, Nat.mod_eq_of_lt (roundMag_lt _ _),
    ← roundMag_units hsr.1 (Nat.two_pow_pos 149), Nat.mul_comm]
  exact roundMag_mono (Nat.two_pow_pos _) (Nat.mul_le_mul_left _ (by decide +kernel))

/-- A quotient by a word no less in magnitude is finite, and at least 0 where the dividend is and the divisor has
sign +. -/
theorem fdiv_of_units_le {a b : Word} (ha : isFinite a = true) (hb : FiniteNonneg b) (hpos : 0 < units b)
    (h0 : 0 ≤ value a) (hle : units a ≤ units b) : isFinite (fdiv a b) = true ∧ 0 ≤ value (fdiv a b) := by
  have hmag : roundMag (units a * 2 ^ 149) (units b) ≤ 0x3F800000 :=
    (roundMag_mono hpos (Nat.mul_le_mul_right _ hle)).trans_eq (roundMag_self_ratio hpos)
  rw [fdiv_of_isFinite ha hb.1 hpos]
  refine ⟨isFinite_signed_roundMag _ (hmag.trans_lt (by norm_num)), ?_⟩
  cases hs : a.sign
  case false => exact value_nonneg_of_sign_false (by rw [hb.2, sign_signed _ (roundMag_lt _ _), bne_self_eq_false])
  case true =>
    have hzero : units a = 0 :=
      Nat.le_zero.mp (units_le_of_value_le (b := 0) h0 ((value_nonpos_of_sign_true hs).trans_eq value_posZero.symm))
    rw [hb.2, hzero, Nat.zero_mul, roundMag_zero hpos]
    decide +kernel

/-- At a prepared rate the LFO frequency over the rate is a finite number of at least 0. -/
theorem ratio_nonneg {sr raw : Word} (hlo : fLe rowFS.lo sr = true) (hhi : fLe sr rowFS.hi = true) :
    let ratio := fdiv (clampP raw (rowLFOF sr)).1 sr
    isFinite ratio = true ∧ 0 ≤ value ratio := by
  have hp : (rowLFOF sr).Ordered := clampRows_ordered hlo hhi _ (by simp)
  obtain ⟨hfin, h0, hhalf⟩ := hp.has_clampP ⟨hp.lo, le_rfl, hp.le⟩ raw
  obtain ⟨hsr, hmin, -⟩ := finiteNonneg_of_mem_rowFS hlo hhi
  have hnonneg : 0 ≤ value (clampP raw (rowLFOF sr)).1 := h0.trans_eq' value_posZero
  have hpos : 0 < units sr := by
    have := units_le_of_value_le (by decide +kernel) ((value_le_value_iff_toNat finiteNonneg_rowFS.1 hsr).mpr hmin)
    exact this.trans_lt' (by decide +kernel)
  exact fdiv_of_units_le hfin hsr hpos hnonneg
    ((units_le_of_value_le hnonneg hhalf).trans (units_half_rate_le hsr hp.hi))

/-- Settles O42: the two quotients are finite and not negative, and `rte` of their magnitudes is the nearest count. -/
theorem rateDependentCountsAreRounded : Obligations.RateDependentCountsAreRounded := by
  intro limit sr raw hlo hhi samples ratio
  obtain ⟨hsamples, hpos⟩ := samples_pos (rowTAU_has_clampP_rowWIN raw) hlo hhi
  obtain ⟨hratio, hnonneg⟩ := ratio_nonneg (raw := raw) hlo hhi
  exact ⟨⟨hsamples.1, hpos, winSamples_nearest hpos.le⟩, hratio, hnonneg, lfoInc_nearest hnonneg⟩

/-! ### EnvCoef (R332; R14: P-EXP-RANGE) -/

/-- P-EXP-RANGE: of an argument at most 0 EXP32 is finite. -/
theorem isFinite_exp32 {v : Word} (h : fLe v 0 = true) : isFinite (exp32 v) = true := by
  simp only [exp32, h, Bool.true_and, Bool.not_eq_true', Bool.and_eq_false_iff]
  split
  case isTrue => decide
  case isFalse hraw =>
    rw [not_or, Bool.not_eq_false, Bool.not_eq_false, fLe_iff_value, fLe_iff_value] at hraw
    obtain ⟨⟨-, hnan, hlo⟩, -, -, hhi⟩ := hraw
    exact isFinite_of_between (by decide) (by decide) hnan hlo hhi

/-- The argument EnvCoef gives EXP32 for a positive number n of samples. -/
theorem fneg_inverse_fLe_zero {n : Word} (hn : FiniteNonneg n) (hpos : 0 < value n) :
    fLe (fneg (fdiv f1 n)) 0 = true := by
  have hunits : 0 < units n := by
    refine Nat.pos_of_ne_zero fun h => hpos.ne' ?_
    rw [value, sunits_of_sign_false hn.2, h, Nat.cast_zero, Int.cast_zero, zero_div]
  have hquot : fdiv f1 n = signed false (roundMag (units f1 * 2 ^ 149) (units n)) := by
    rw [fdiv_of_isFinite (by decide) hn.1 hunits, hn.2]
    rfl
  refine fLe_iff_value.mpr ⟨?_, by decide, (value_nonpos_of_sign_true ?_).trans_eq value_posZero.symm⟩
  · rw [isNaN_fneg, hquot, isNaN_signed_roundMag]
  · rw [sign_fneg, hquot, sign_signed _ (roundMag_lt _ _), Bool.not_false]

/-- The bounds of an envelope coefficient as a row (R332); its NaN value is never used. -/
def rowCoef : ClampRow := ⟨fMinCoef, fMaxCoef, fMinCoef⟩

theorem value_fMinCoef : value fMinCoef = 1 / 2 ^ 126 := by decide +kernel

theorem value_fMaxCoef : value fMaxCoef = 1 - 1 / 2 ^ 24 := by decide +kernel

theorem rowCoef_ordered : rowCoef.Ordered := ⟨by decide, by decide, by decide +kernel⟩

theorem boundCoef_eq_clampP {c : Word} (hc : isNaN c = false) : boundCoef c = (clampP c rowCoef).1 := by
  have hclamp : (clampP c rowCoef).1 =
      if fLt c fMinCoef then fMinCoef else if fLt fMaxCoef c then fMaxCoef else c :=
    if_neg (Bool.eq_false_iff.mp hc)
  rw [boundCoef, hclamp]
  by_cases hlow : fLt c fMinCoef = true
  · simp only [if_pos hlow, show fLt fMaxCoef fMinCoef = false by decide, Bool.false_eq_true, if_false]
  · simp only [if_neg hlow]

/-- A difference of words of sign + that is above 0 is the rounded difference of the magnitudes. -/
theorem toNat_fsub_of_lt {a b : Word} (ha : FiniteNonneg a) (hb : FiniteNonneg b) (h : units b < units a) :
    (fsub a b).toNat = roundMag (units a - units b) 1 := by
  obtain ⟨hanan, hainf⟩ := not_nan_inf_of_finite ha.1
  obtain ⟨hbnan, hbinf⟩ := not_nan_inf_of_finite hb.1
  have hz : sunits a + sunits (fneg b) = (units a - units b : Nat) := by
    rw [sunits_fneg, sunits_of_sign_false ha.2, sunits_of_sign_false hb.2]
    omega
  have hne : ((units a - units b : Nat) : Int) ≠ 0 := by omega
  simp only [fsub, fadd, hanan, hainf, hbnan, hbinf, isNaN_fneg, isInf_fneg, hz, hne, Bool.or_self, Bool.false_eq_true,
    if_false, Int.natAbs_natCast, show decide (((units a - units b : Nat) : Int) < 0) = false by simp]
  rw [signed_toNat false (roundMag_lt _ _), if_neg Bool.false_ne_true, Nat.zero_add]

/-- The magnitude of a word of sign + rounds to that word's bits. -/
theorem roundMag_units_one {w : Word} (hw : FiniteNonneg w) : roundMag (units w) 1 = w.toNat := by
  rw [← toNat_mod_of_sign_false hw.2, ← roundMag_units hw.1 one_pos, mul_one]

/-- 1 - c of a coefficient in its range lies in [2^-24, 1] (R332). -/
theorem fsub_f1_coef {c : Word} (hc : rowCoef.Has c) :
    isFinite (fsub f1 c) = true ∧ 1 / 2 ^ 24 ≤ value (fsub f1 c) ∧ value (fsub f1 c) ≤ 1 := by
  have one : FiniteNonneg f1 := ⟨by decide, by decide⟩
  have least : FiniteNonneg 0x33800000 := ⟨by decide, by decide⟩
  have hcoef : FiniteNonneg c := ⟨hc.finite, sign_false_of_value_pos (hc.lo.trans_lt' (by decide +kernel))⟩
  have hle : units c ≤ units fMaxCoef := units_le_of_value_le (value_nonneg_of_sign_false hcoef.2) hc.hi
  have hmax : units f1 = units fMaxCoef + units 0x33800000 := by decide +kernel
  have hleast : 0 < units 0x33800000 := by decide +kernel
  have hg := toNat_fsub_of_lt one hcoef (by omega)
  have hlo : (0x33800000 : Word).toNat ≤ (fsub f1 c).toNat := by
    rw [hg, ← roundMag_units_one least]
    exact roundMag_mono one_pos (by omega)
  have hhi : (fsub f1 c).toNat ≤ f1.toNat := by
    rw [hg, ← roundMag_units_one one]
    exact roundMag_mono one_pos (Nat.sub_le _ _)
  have hfin : FiniteNonneg (fsub f1 c) := finiteNonneg_iff_toNat_lt.mpr (hhi.trans_lt (by decide))
  refine ⟨hfin.1, ?_, ?_⟩
  · rw [show (1 : ℚ) / 2 ^ 24 = value 0x33800000 by decide +kernel]
    exact (value_le_value_iff_toNat least hfin).mpr hlo
  · rw [← value_f1]
    exact (value_le_value_iff_toNat hfin one).mpr hhi

/-- Settles O41: EXP32's argument is at most 0, so its value is finite and the coefficient is that value clamped by
exact comparison; 1 - c lies between its values at the two ends of the range of c. -/
theorem envelopeCoefficientsLieInRange : Obligations.EnvelopeCoefficientsLieInRange := by
  intro sr raw hlo hhi tau e c g
  obtain ⟨hn, hpos⟩ := samples_pos (rowTAU_has_clampP raw) hlo hhi
  have he : isFinite e = true := isFinite_exp32 (fneg_inverse_fLe_zero hn hpos)
  have hnan : isNaN e = false := (not_nan_inf_of_finite he).1
  have hc : c = (clampP e rowCoef).1 := boundCoef_eq_clampP hnan
  have hhas : rowCoef.Has c :=
    hc ▸ rowCoef_ordered.has_clampP ⟨rowCoef_ordered.lo, le_rfl, rowCoef_ordered.le⟩ e
  obtain ⟨hg, hglo, hghi⟩ := fsub_f1_coef hhas
  have hcnan := (not_nan_inf_of_finite hhas.finite).1
  refine ⟨he, fun hlow => ?_, fun hhigh => ?_, fun hge hle => ?_,
    ⟨fLe_iff_value.mpr ⟨by decide, hcnan, hhas.lo⟩, fLe_iff_value.mpr ⟨hcnan, by decide, hhas.hi⟩, rfl⟩,
    hg, hglo, hghi, rfl⟩
  · exact hc.trans (clampP_of_lt_lo rowCoef_ordered hnan (hlow.trans_eq value_fMinCoef.symm))
  · exact hc.trans (clampP_of_hi_lt rowCoef_ordered hnan (value_fMaxCoef.trans_lt hhigh))
  · exact hc.trans (clampP_of_mem rowCoef_ordered hnan (value_fMinCoef.trans_le hge) (hle.trans_eq value_fMaxCoef.symm))

end Sys2Proof.Machine

namespace Sys2Proof.Machine

/-! ### What an LFO command writes: a register, a unit, flags (R53, R68, R126) -/

theorem keepsExcept_setLfo (s : State) (u : UnitIx) (x : LfoUnit) : KeepsExcept [.lfo] s (s.setLfo u x) := by
  refine ⟨⟨by simp, rfl, rfl, rfl, rfl, rfl, rfl, rfl⟩, fun k hk => ?_⟩
  cases k
  case lfo => simp at hk
  all_goals rfl

theorem onlyLfo_setLfo (s : State) (u : UnitIx) (x : LfoUnit) : OnlyLfo u s (s.setLfo u x) :=
  fun v hv => s.lfoAt_setLfo_ne u v x hv

theorem State.lfoAt_setLfo_self {s : State} {u : UnitIx} (hu : u.val < s.lfo.length) (x : LfoUnit) :
    (s.setLfo u x).lfoAt u = x := by simp [hu]

section
variable {i : Instr} {s : State} {u : UnitIx} {x : LfoUnit} {f : FlagSet} {body : Word → Out}

/-- A legal command that replaces an existing LFO unit and flags completes on a prepared core. -/
theorem completes_of_setLfo (hexec : exec i s = frame i s body) (hwf : i.wf s.params = true)
    (hprepared : s.prepared = true) (hu : u.val < s.lfo.length)
    (hbody : body (encode i) = .next ((s.setLfo u x).flag (encode i) f)) :
    Completes i s f [.lfo] fun t => SameRegs s t ∧ OnlyLfo u s t ∧ t.lfoAt u = x :=
  completes_of_frame hexec hwf hprepared hbody ⟨rfl, rfl⟩ ((keepsExcept_setLfo s u x).flag (encode i) f)
    ⟨fun _ => rfl, onlyLfo_setLfo s u x, State.lfoAt_setLfo_self hu x⟩

/-- A legal command that replaces an existing LFO unit, writes a data register and flags completes on a prepared
core. -/
theorem completes_of_setLfo_setReg {rd : Reg} {v : Word} (hexec : exec i s = frame i s body)
    (hwf : i.wf s.params = true) (hprepared : s.prepared = true) (hu : u.val < s.lfo.length)
    (hbody : body (encode i) = .next (((s.setLfo u x).setReg rd v).flag (encode i) f)) :
    Completes i s f [.lfo] fun t => Writes rd v s t ∧ OnlyLfo u s t ∧ t.lfoAt u = x :=
  completes_of_frame hexec hwf hprepared hbody ⟨rfl, rfl⟩ ((keepsExcept_setLfo s u x).setReg_flag rd v (encode i) f)
    ⟨writes_setReg (s.setLfo u x) rd v, onlyLfo_setLfo s u x, State.lfoAt_setLfo_self hu x⟩

end

/-! ### The LFO commands as framed commands (R371 to R378) -/

theorem exec_lfofrq (ra : Reg) (u : UnitIx) (s : State) :
    exec (.lfofrq ra u) s = frame (.lfofrq ra u) s fun w =>
      let n := lfoInc s.sr (s.reg ra)
      .next ((s.setLfo u { s.lfoAt u with rfreq := s.reg ra, inc := n.1 }).flag w n.2) := rfl

theorem exec_lfowav (wf : Waveform) (u : UnitIx) (s : State) :
    exec (.lfowav wf u) s = frame (.lfowav wf u) s fun _ =>
      .next (s.setLfo u { s.lfoAt u with wave := wf }) := rfl

theorem exec_lfoofs (ra : Reg) (u : UnitIx) (s : State) :
    exec (.lfoofs ra u) s = frame (.lfoofs ra u) s fun w =>
      let v := s.reg ra
      .next ((s.setLfo u { s.lfoAt u with ofs := if isFinite v then phaseOffset v else 0 }).flag w
        (flagIf (!isFinite v) flagCLAMP)) := rfl

theorem exec_lfotick (rd : Reg) (u : UnitIx) (s : State) :
    exec (.lfotick rd u) s = frame (.lfotick rd u) s fun _ =>
      .next ((s.setLfo u (s.lfoAt u).tick).setReg rd (s.lfoAt u).tick.value) := rfl

theorem exec_lfoseed (ra : Reg) (u : UnitIx) (s : State) :
    exec (.lfoseed ra u) s = frame (.lfoseed ra u) s fun w =>
      let v := if s.reg ra = 0 then 1 else s.reg ra
      .next ((s.setLfo u { s.lfoAt u with seed := v, rng := v }).flag w
        (flagIf (s.reg ra == 0) flagCLAMP)) := rfl

theorem exec_lfordph (rd : Reg) (u : UnitIx) (s : State) :
    exec (.lfordph rd u) s = frame (.lfordph rd u) s fun _ => .next (s.setReg rd (s.lfoAt u).phase) := rfl

theorem exec_lforst (u : UnitIx) (s : State) :
    exec (.lforst u) s = frame (.lforst u) s fun _ => .next (s.setLfo u (s.lfoAt u).restart) := rfl

/-! ### One tick (R374, R375) -/

theorem LfoUnit.tick_of_no_carry {l : LfoUnit} (h : l.phase.toNat + l.inc.toNat < 2 ^ 32) :
    l.tick = { l with phase := l.phase + l.inc } := by
  rw [LfoUnit.tick, if_neg h.not_ge]

theorem LfoUnit.tick_of_carry {l : LfoUnit} (h : 2 ^ 32 ≤ l.phase.toNat + l.inc.toNat) :
    l.tick = { l with
      phase := l.phase + l.inc, rng := xorshift32 l.rng, held := rn32Int (xorshift32 l.rng).toInt 31 } := by
  rw [LfoUnit.tick, if_pos h, LfoUnit.draw]

/-- A sum of words is the sum of their naturals modulo 2^32. -/
theorem ofNat_toNat_add (a b : Word) : BitVec.ofNat 32 ((a.toNat + b.toNat) % 2 ^ 32) = a + b :=
  BitVec.eq_of_toNat_eq (by simp)

theorem ofNat_toNat_add_add (a b c : Word) :
    BitVec.ofNat 32 ((a.toNat + b.toNat + c.toNat) % 2 ^ 32) = a + b + c :=
  BitVec.eq_of_toNat_eq (by simp)

/-- Settles O49: LFOTICK replaces the unit by the ticked one and writes its value, in both cases of the carry. -/
theorem lfoTickAdvancesThenEvaluates : Obligations.LfoTickAdvancesThenEvaluates := by
  intro rd u s
  refine ⟨obeysFrame_of_frame rfl (exec_lfotick rd u s), fun hu hprepared => ?_⟩
  have hcompletes : Completes (.lfotick rd u) s 0 [.lfo] fun t =>
      Writes rd (s.lfoAt u).tick.value s t ∧ OnlyLfo u s t ∧ t.lfoAt u = (s.lfoAt u).tick :=
    completes_of_setLfo_setReg (exec_lfotick ..) (Instr.wf_of_unit rfl hu rfl) hprepared hu (by rw [State.flag_zero])
  simp only [ofNat_toNat_add, ofNat_toNat_add_add]
  refine ⟨fun hbelow => ?_, fun hcarry => ?_⟩
  · rwa [LfoUnit.tick_of_no_carry hbelow, LfoUnit.value] at hcompletes
  · rwa [LfoUnit.tick_of_carry hcarry, LfoUnit.value] at hcompletes

/-! ### LFO configuration (R371 to R373, R376 to R378) -/

/-- `phaseOffset` is an integer nearest to v · 2^32, ties to even, modulo 2^32. -/
theorem phaseOffset_nearest (v : Word) :
    ∃ n : Int, |value v * 2 ^ 32 - n| ≤ 1 / 2 ∧ (|value v * 2 ^ 32 - n| = 1 / 2 → n % 2 = 0) ∧
      phaseOffset v = BitVec.ofInt 32 n := by
  have hx : |value v| * 2 ^ 32 * (2 ^ 149 : Nat) = (units v * 2 ^ 32 : Nat) := by
    rw [abs_value]; push_cast; ring
  obtain ⟨hle, htie⟩ := rte_nearest (Nat.two_pow_pos _) hx
  cases hs : v.sign
  case false =>
    rw [abs_of_nonneg (value_nonneg_of_sign_false hs)] at hle htie
    exact ⟨_, by exact_mod_cast hle, fun h => by exact_mod_cast htie h,
      congrArg (BitVec.ofInt 32) (if_neg (Bool.eq_false_iff.mp hs))⟩
  case true =>
    rw [abs_of_nonpos (value_nonpos_of_sign_true hs), ← abs_neg] at hle htie
    have hneg (n : Nat) : value v * 2 ^ 32 - (-n : Int) = -(-value v * 2 ^ 32 - n) := by push_cast; ring
    refine ⟨_, ?_, fun h => ?_, congrArg (BitVec.ofInt 32) (if_pos hs)⟩
    · rwa [hneg]
    · rw [hneg] at h
      have := htie h
      omega

theorem completes_lfoofs {ra : Reg} {u : UnitIx} {s : State} (hu : u.val < s.lfo.length)
    (hprepared : s.prepared = true) {f : FlagSet} {ofs : Word} (hflag : flagIf (!isFinite (s.reg ra)) flagCLAMP = f)
    (hofs : (if isFinite (s.reg ra) then phaseOffset (s.reg ra) else 0) = ofs) :
    Completes (.lfoofs ra u) s f [.lfo] fun t =>
      SameRegs s t ∧ OnlyLfo u s t ∧ t.lfoAt u = { s.lfoAt u with ofs := ofs } :=
  completes_of_setLfo (exec_lfoofs ..) (Instr.wf_of_unit rfl hu rfl) hprepared hu (by rw [← hflag, ← hofs])

/-- Settles O48: LFORDPH only writes a data register, each of the other commands only replaces its unit, and the offset
is `phaseOffset`. -/
theorem lfoConfigurationCompletes : Obligations.LfoConfigurationCompletes := by
  intro wf rd ra u s l v seed
  refine ⟨obeysFrame_of_frame rfl (exec_lfofrq ..), obeysFrame_of_frame rfl (exec_lfowav ..),
    obeysFrame_of_frame rfl (exec_lfoofs ..), obeysFrame_of_frame rfl (exec_lfoseed ..),
    obeysFrame_of_frame rfl (exec_lfordph ..), obeysFrame_of_frame rfl (exec_lforst ..), fun hu hprepared => ?_⟩
  have hwf {i : Instr} (hunit : i.unit s.params = some (u, s.lfo.length)) (hchannel : i.channelOk s.params = true) :
      i.wf s.params = true := Instr.wf_of_unit hunit hu hchannel
  refine ⟨?lfofrq, ?lfowav, fun hnonfinite => ?replacedOffset, fun hfinite => ?offset, ?lfoseed, ?lfordph, ?lforst⟩
  case lfofrq => exact completes_of_setLfo (exec_lfofrq ..) (hwf rfl rfl) hprepared hu rfl
  case lfowav => exact completes_of_setLfo (exec_lfowav ..) (hwf rfl rfl) hprepared hu (by rw [State.flag_zero])
  case replacedOffset => exact completes_lfoofs hu hprepared (by simp [flagIf, v, hnonfinite]) (by simp [v, hnonfinite])
  case offset =>
    obtain ⟨n, hle, htie, hn⟩ := phaseOffset_nearest v
    exact ⟨n, hle, htie, completes_lfoofs hu hprepared (by simp [flagIf, v, hfinite]) (by simp [v, hfinite, hn])⟩
  case lfoseed =>
    refine completes_of_setLfo (exec_lfoseed ..) (hwf rfl rfl) hprepared hu ?_
    simp only [flagIf, beq_iff_eq, seed, v, l]
  case lfordph => exact completes_of_setReg (exec_lfordph ..) (hwf rfl rfl) hprepared rfl
  case lforst => exact completes_of_setLfo (exec_lforst ..) (hwf rfl rfl) hprepared hu (by rw [State.flag_zero]; rfl)

end Sys2Proof.Machine

namespace Sys2Proof.Machine

/-! ### Rounding a magnitude gives the nearest word (R10, R11) -/

/-- `rte` is nearer than every other integer, and even where another is as near. -/
theorem rte_nearest_among {n d : Nat} {y : ℚ} (hd : 0 < d) (hy : y * d = n) (j : Int) :
    |y - rte n d| ≤ |y - j| ∧ (|y - rte n d| = |y - j| → j = rte n d ∨ rte n d % 2 = 0) := by
  obtain ⟨hle, htie⟩ := rte_nearest hd hy
  by_cases hj : j = rte n d
  case pos => exact ⟨by rw [hj, Int.cast_natCast], fun _ => .inl hj⟩
  case neg =>
    have hgap : (1 : ℚ) ≤ |(j : ℚ) - rte n d| := by exact_mod_cast Int.one_le_abs (sub_ne_zero.mpr hj)
    have htriangle := abs_sub_le (j : ℚ) y (rte n d)
    rw [abs_sub_comm (j : ℚ) y] at htriangle
    exact ⟨by linarith, fun h => .inr (htie (by linarith))⟩

/-- The exponent of the last place `roundMag` rounds n / d at, in units of 2^-149. -/
def lastPlace (n d : Nat) : Nat := Nat.log2 (n / d) - 23

/-- The significand of `roundMag`, the quotient rounded at its last place. -/
def roundedSig (n d : Nat) : Nat := rte n (d * 2 ^ lastPlace n d)

theorem roundMag_eq (n d : Nat) : roundMag n d = min (lastPlace n d * 2 ^ 23 + roundedSig n d) 0x7F800000 := rfl

theorem div_lt_two_pow_lastPlace (n d : Nat) : n / d < 2 ^ (24 + lastPlace n d) := by
  rcases Nat.eq_zero_or_pos (n / d) with h0 | h0
  · rw [h0]; exact Nat.two_pow_pos _
  · exact Nat.lt_log2_self.trans_le (Nat.pow_le_pow_right (by omega) (by unfold lastPlace; omega))

/-- Above the last place 0 the quotient has a leading bit. -/
theorem two_pow_lastPlace_le_div {n d : Nat} (h : lastPlace n d ≠ 0) : 2 ^ (23 + lastPlace n d) ≤ n / d := by
  have hlog : Nat.log2 (n / d) = 23 + lastPlace n d := by unfold lastPlace at h ⊢; omega
  have hne : n / d ≠ 0 := fun h0 => by rw [h0, Nat.log2_zero] at hlog; omega
  exact hlog ▸ Nat.log2_self_le hne

section
variable {n d : Nat} (hd : 0 < d)
include hd

theorem roundedSig_le : roundedSig n d ≤ 2 ^ 24 := by
  refine rte_le (Nat.mul_pos hd (Nat.two_pow_pos _)) ?_
  have := (Nat.div_lt_iff_lt_mul hd).mp (div_lt_two_pow_lastPlace n d)
  calc n ≤ 2 ^ (24 + lastPlace n d) * d := this.le
    _ = 2 ^ 24 * (d * 2 ^ lastPlace n d) := by rw [pow_add]; ring

theorem le_roundedSig (h : lastPlace n d ≠ 0) : 2 ^ 23 ≤ roundedSig n d := by
  refine le_rte (Nat.mul_pos hd (Nat.two_pow_pos _)) ?_
  calc 2 ^ 23 * (d * 2 ^ lastPlace n d) = 2 ^ (23 + lastPlace n d) * d := by rw [pow_add]; ring
    _ ≤ n := (Nat.le_div_iff_mul_le hd).mp (two_pow_lastPlace_le_div h)

/-- A rounded magnitude below the overflow threshold is that of the word with its bits: a significand rounded up to 2^24
has carried into the exponent. -/
theorem finiteNonneg_roundMag (h : roundMag n d < 0x7F800000) :
    FiniteNonneg (signed false (roundMag n d)) ∧
    units (signed false (roundMag n d)) = roundedSig n d * 2 ^ lastPlace n d := by
  have hle := roundedSig_le (n := n) hd
  have hlead := le_roundedSig (n := n) hd
  have hbits : roundMag n d = lastPlace n d * 2 ^ 23 + roundedSig n d := by rw [roundMag_eq] at h ⊢; omega
  rw [hbits] at h ⊢
  generalize roundedSig n d = m at *
  generalize lastPlace n d = k at *
  rcases Nat.lt_or_ge m (2 ^ 23) with hlow | hm
  · obtain rfl : k = 0 := by by_contra hk; have := hlead hk; omega
    simpa using finiteNonneg_subnormal hlow
  rcases hle.lt_or_eq with hlt | rfl
  · exact finiteNonneg_normal (by omega) hm hlt
  · have hcarry := finiteNonneg_normal (e := k + 1) (j := 2 ^ 23) (by omega) le_rfl (by norm_num)
    rw [show k * 2 ^ 23 + 2 ^ 24 = (k + 1) * 2 ^ 23 + 2 ^ 23 by ring]
    exact ⟨hcarry.1, hcarry.2.trans (by ring)⟩

end

/-- A word is a multiple of 2^k units, or its exponent is so low that it lies below 2^(23 + k) units. -/
theorem two_pow_dvd_sunits_or_lt (v : Word) (k : Nat) :
    (2 ^ k : Int) ∣ sunits v ∨ k ≠ 0 ∧ sunits v < 2 ^ (23 + k) := by
  have hfrac : fracField v < 2 ^ 23 := Nat.mod_lt _ (by norm_num)
  by_cases hexp : k < expField v
  case pos =>
    have hdvd : 2 ^ k ∣ units v := by
      rw [units, if_neg (by omega)]
      exact (pow_dvd_pow 2 (by omega)).mul_left _
    left
    rw [← dvd_abs, abs_sunits]
    exact_mod_cast hdvd
  case neg =>
    by_cases hk : k = 0
    case pos => exact .inl (by simp [hk])
    case neg =>
      have hlt : units v < 2 ^ (23 + k) := by
        unfold units
        split
        · exact hfrac.trans_le (Nat.pow_le_pow_right (by norm_num) (by omega))
        · calc (2 ^ 23 + fracField v) * 2 ^ (expField v - 1)
              < 2 ^ 24 * 2 ^ (expField v - 1) := Nat.mul_lt_mul_of_pos_right (by omega) (Nat.two_pow_pos _)
            _ ≤ 2 ^ (23 + k) := by rw [← pow_add]; exact Nat.pow_le_pow_right (by norm_num) (by omega)
      have habs := le_abs_self (sunits v)
      rw [abs_sunits] at habs
      exact .inr ⟨hk, habs.trans_lt (by exact_mod_cast hlt)⟩

/-- Of all words the rounded magnitude is nearest to n / d units, and has an even significand where another value
is as near: a word of the same last place is told apart by `rte`, a finer one lies below the leading bit of n / d. -/
theorem roundedSig_nearest {n d : Nat} {x : ℚ} (hd : 0 < d) (hx : x * d = n) (v : Word) :
    let r : ℚ := roundedSig n d * 2 ^ lastPlace n d
    |x - r| ≤ |x - sunits v| ∧ (|x - r| = |x - sunits v| → (sunits v : ℚ) = r ∨ roundedSig n d % 2 = 0) := by
  intro r
  have hplace : (0 : ℚ) < 2 ^ lastPlace n d := by positivity
  have hy : x / 2 ^ lastPlace n d * (d * 2 ^ lastPlace n d : Nat) = n := by
    push_cast; rw [← hx]; field_simp
  have hnearest := rte_nearest_among (Nat.mul_pos hd (Nat.two_pow_pos _)) hy
  have hscale (t : ℚ) : |x - t * 2 ^ lastPlace n d| = |x / 2 ^ lastPlace n d - t| * 2 ^ lastPlace n d := by
    rw [← abs_of_pos hplace, ← abs_mul, abs_of_pos hplace, sub_mul, div_mul_cancel₀ _ hplace.ne']
  rcases two_pow_dvd_sunits_or_lt v (lastPlace n d) with ⟨j, hj⟩ | ⟨hk, hlt⟩
  · obtain ⟨hle, htie⟩ := hnearest j
    have hv' : (sunits v : ℚ) = j * 2 ^ lastPlace n d := by rw [hj]; push_cast; ring
    rw [hv', hscale, hscale]
    refine ⟨mul_le_mul_of_nonneg_right hle hplace.le, fun h => ?_⟩
    rcases htie (mul_right_cancel₀ hplace.ne' h) with rfl | heven
    · exact .inl rfl
    · exact .inr heven
  · have hlead : (2 : ℚ) ^ 23 * 2 ^ lastPlace n d ≤ x := by
      have h := (Nat.le_div_iff_mul_le hd).mp (two_pow_lastPlace_le_div hk)
      refine le_of_mul_le_mul_right ?_ (Nat.cast_pos.mpr hd : (0 : ℚ) < d)
      rw [hx, ← pow_add]
      exact_mod_cast h
    have hle : |x - r| ≤ x - 2 ^ 23 * 2 ^ lastPlace n d := by
      rw [← abs_of_nonneg (sub_nonneg.mpr hlead), hscale, hscale]
      have := (hnearest (2 ^ 23)).1
      rw [Int.cast_pow, Int.cast_ofNat] at this
      exact mul_le_mul_of_nonneg_right this hplace.le
    have hbelow : (sunits v : ℚ) < 2 ^ 23 * 2 ^ lastPlace n d := by rw [← pow_add]; exact_mod_cast hlt
    have hstrict : |x - r| < |x - sunits v| :=
      hle.trans_lt ((sub_lt_sub_left hbelow x).trans_le (le_abs_self _))
    exact ⟨hstrict.le, fun h => absurd h hstrict.ne⟩

/-- A finite rounded magnitude is the binary32 nearest to the exact quotient, ties to even (R10, R11). -/
theorem isNearestEven_roundMag {n d : Nat} {r : ℚ} (hd : 0 < d) (hr : r * 2 ^ 149 * d = n)
    (h : roundMag n d < 0x7F800000) : IsNearestEven r (signed false (roundMag n d)) := by
  obtain ⟨hw, hunits⟩ := finiteNonneg_roundMag hd h
  have hvalue : value (signed false (roundMag n d)) * 2 ^ 149 = roundedSig n d * 2 ^ lastPlace n d := by
    rw [value_of_sunits (sunits_of_sign_false hw.2), hunits, div_mul_cancel₀ _ (by positivity)]
    push_cast
    rfl
  have hscale (t : ℚ) : |r * 2 ^ 149 - t * 2 ^ 149| = |r - t| * 2 ^ 149 := by
    rw [← sub_mul, abs_mul, abs_of_pos (by positivity : (0 : ℚ) < 2 ^ 149)]
  refine ⟨hw.1, fun v _ => ?_⟩
  have hsunits : (sunits v : ℚ) = value v * 2 ^ 149 := (div_mul_cancel₀ _ (by positivity)).symm
  obtain ⟨hle, htie⟩ := roundedSig_nearest hd hr v
  rw [← hvalue, hsunits, hscale, hscale] at hle htie
  refine ⟨le_of_mul_le_mul_right hle (by positivity), fun heq => ?_⟩
  rcases htie (by rw [heq]) with hsame | heven
  · exact .inl (mul_right_cancel₀ (by positivity) hsame)
  · refine .inr ?_
    rw [roundMag_eq] at h ⊢
    rw [BitVec.getLsbD, signed_toNat false (by omega), Nat.testBit_eq_decide_div_mod_eq, decide_eq_false_iff_not]
    simp only [Bool.false_eq_true, if_false]
    omega

end Sys2Proof.Machine

namespace Sys2Proof.Machine

/-! ### RN32 of a dyadic fraction (R11) -/

theorem roundMag_le_of_le_units {n : Nat} {w : Word} (hw : FiniteNonneg w) (h : n ≤ units w) :
    roundMag n 1 ≤ w.toNat := by
  rw [← roundMag_units_one hw]
  exact roundMag_mono one_pos h

/-- RN32(n / 2^j) of a fraction at most a word's value: nearest, of sign +, and at most that word. -/
theorem rn32_of_le_units {n j : Nat} {w : Word} (hj : j ≤ 149) (hw : FiniteNonneg w) (h : n * 2 ^ (149 - j) ≤ units w) :
    IsNearestEven ((n : ℚ) / 2 ^ j) (rn32 n j) ∧ FiniteNonneg (rn32 n j) ∧ units (rn32 n j) ≤ units w := by
  have hbits := roundMag_le_of_le_units hw h
  have hfin := hbits.trans_lt (finiteNonneg_iff_toNat_lt.mp hw)
  obtain ⟨hrn, -⟩ := finiteNonneg_roundMag one_pos hfin
  refine ⟨isNearestEven_roundMag one_pos ?_ hfin, hrn, ?_⟩
  · push_cast
    rw [mul_one, div_mul_eq_mul_div, ← pow_sub_mul_pow (2 : ℚ) hj]
    field_simp
  · rw [rn32, units_le_units_iff_toNat hrn hw, signed_toNat false (roundMag_lt _ _)]
    simpa using hbits

/-! ### Sums of bounded magnitude (R10) -/

theorem natAbs_sunits (w : Word) : (sunits w).natAbs = units w := by unfold sunits; split <;> simp

theorem units_signed (s : Bool) {m : Nat} (h : m < 2 ^ 31) : units (signed s m) = units (signed false m) := by
  simp only [units, expField_signed _ h, fracField_signed _ h]

/-- A sum of finite words is the rounded magnitude of the exact sum with that sum's sign. -/
theorem sunits_fadd {a b : Word} (ha : isFinite a = true) (hb : isFinite b = true) :
    ∃ s : Bool, fadd a b = signed s (roundMag (sunits a + sunits b).natAbs 1) ∧
      sunits (fadd a b) =
        (sunits a + sunits b).sign * units (signed false (roundMag (sunits a + sunits b).natAbs 1)) := by
  simp only [fadd, not_nan_inf_of_finite ha, not_nan_inf_of_finite hb, Bool.or_self, Bool.false_eq_true, if_false]
  split
  case isTrue hzero =>
    rw [hzero, Int.natAbs_zero, roundMag_zero one_pos]
    refine ⟨_, rfl, ?_⟩
    cases a.sign && b.sign <;> rfl
  case isFalse hne =>
    refine ⟨_, rfl, ?_⟩
    rw [sunits, sign_signed _ (roundMag_lt _ _), units_signed _ (roundMag_lt _ _)]
    rcases lt_or_gt_of_ne hne with hneg | hpos
    · simp [hneg, Int.sign_eq_neg_one_of_neg hneg]
    · simp [hpos.not_gt, Int.sign_eq_one_of_pos hpos]

theorem signed_finite_of_le (s : Bool) {m : Nat} {w : Word} (hw : FiniteNonneg w) (h : m ≤ w.toNat) :
    isFinite (signed s m) = true ∧ units (signed s m) ≤ units w := by
  have hlt := finiteNonneg_iff_toNat_lt.mp hw
  have hm : m < 2 ^ 31 := by omega
  have hfin : isFinite (signed s m) = true := by
    rw [isFinite, expField_signed s hm, bne_iff_ne]
    omega
  refine ⟨hfin, ?_⟩
  rw [units_le_units_iff hfin hw.1, signed_toNat s hm]
  split <;> omega

/-- An exact sum whose bound rounds to at most a finite word gives a sum of at most that word's magnitude. -/
theorem fadd_of_bounded {a b w : Word} {m : Nat} (ha : isFinite a = true) (hb : isFinite b = true)
    (hw : FiniteNonneg w) (hm : roundMag m 1 ≤ w.toNat) (h : (sunits a + sunits b).natAbs ≤ m) :
    isFinite (fadd a b) = true ∧ units (fadd a b) ≤ units w := by
  obtain ⟨s, heq, -⟩ := sunits_fadd ha hb
  rw [heq]
  exact signed_finite_of_le s hw ((roundMag_mono one_pos h).trans hm)

/-! ### Words in [-1, 1] -/

/-- A finite word of magnitude at most 1. -/
def InUnit (w : Word) : Prop := isFinite w = true ∧ units w ≤ 2 ^ 149

theorem units_f1 : units f1 = 2 ^ 149 := by decide +kernel

theorem units_f2 : units f2 = 2 ^ 150 := by decide +kernel

theorem finiteNonneg_f1 : FiniteNonneg f1 := ⟨by decide, by decide⟩

theorem finiteNonneg_f2 : FiniteNonneg f2 := ⟨by decide, by decide⟩

theorem InUnit.abs_value_le_one {w : Word} (h : InUnit w) : |value w| ≤ 1 := by
  rw [abs_value, div_le_one (by positivity)]
  exact_mod_cast h.2

theorem inUnit_of_fLe {w : Word} (h : fLe (fabs w) f1 = true) : InUnit w := by
  have hle := units_le_of_value_le (value_nonneg_of_sign_false (sign_fabs w)) (fLe_iff_value.mp h).2.2
  rw [units_fabs, units_f1] at hle
  exact ⟨isFinite_of_fLe_f1 h, hle⟩

theorem InUnit.fneg {w : Word} (h : InUnit w) : InUnit (fneg w) := by simpa [InUnit] using h

/-- Differences of words of sign + that differ by at most 1. -/
theorem inUnit_fsub {a b : Word} (ha : FiniteNonneg a) (hb : FiniteNonneg b) (hab : units a ≤ units b + 2 ^ 149)
    (hba : units b ≤ units a + 2 ^ 149) : InUnit (fsub a b) := by
  have hz : (sunits a + sunits (fneg b)).natAbs ≤ 2 ^ 149 := by
    rw [sunits_fneg, sunits_of_sign_false ha.2, sunits_of_sign_false hb.2]
    omega
  have hbound := fadd_of_bounded ha.1 (by simpa using hb.1) finiteNonneg_f1
    (roundMag_le_of_le_units finiteNonneg_f1 units_f1.ge) hz
  rwa [units_f1] at hbound

/-! ### Linear interpolation between words of [-1, 1] (R381) -/

/-- Rounding a magnitude of at most 2.0 moves it by at most 2^-24, half a last place. -/
theorem roundMag_error {n : Nat} (h : n ≤ 2 ^ 150) :
    ((n : Int) - units (signed false (roundMag n 1))).natAbs ≤ 2 ^ 125 := by
  have hfin : roundMag n 1 < 0x7F800000 :=
    (roundMag_le_of_le_units finiteNonneg_f2 (h.trans_eq units_f2.symm)).trans_lt (by decide)
  rcases h.lt_or_eq with hlt | rfl
  case inl =>
    have hplace : lastPlace n 1 ≤ 126 := by
      by_contra hk
      have := two_pow_lastPlace_le_div (n := n) (d := 1) (by omega)
      have := Nat.pow_le_pow_right (n := 2) (by norm_num) (show 150 ≤ 23 + lastPlace n 1 by omega)
      omega
    have hpow : 2 ^ lastPlace n 1 ≤ 2 ^ 126 := Nat.pow_le_pow_right (by norm_num) hplace
    have hle := (rte_nearest_int (n := n) (Nat.two_pow_pos (lastPlace n 1))).1
    rw [(finiteNonneg_roundMag one_pos hfin).2, roundedSig, Nat.one_mul, Nat.cast_mul]
    rw [Int.abs_eq_natAbs] at hle
    omega
  case inr => decide +kernel

/-- The difference of two words of [-1, 1] is off by at most 2^-24. -/
theorem fsub_error {a b : Word} (ha : InUnit a) (hb : InUnit b) :
    isFinite (fsub b a) = true ∧ (sunits b - sunits a - sunits (fsub b a)).natAbs ≤ 2 ^ 125 := by
  have hnega : isFinite (fneg a) = true := by simpa using ha.1
  have hz : (sunits b + sunits (fneg a)).natAbs ≤ 2 ^ 150 := by
    have := natAbs_sunits a
    have := natAbs_sunits b
    have := ha.2
    have := hb.2
    rw [sunits_fneg]
    omega
  obtain ⟨-, -, hsunits⟩ := sunits_fadd hb.1 hnega
  have hfin := (fadd_of_bounded hb.1 hnega finiteNonneg_f2
    (roundMag_le_of_le_units finiteNonneg_f2 units_f2.ge) hz).1
  have herror := roundMag_error hz
  rw [fsub, hsunits, sub_eq_add_neg (sunits b), ← sunits_fneg]
  generalize sunits b + sunits (fneg a) = z at herror
  refine ⟨hfin, ?_⟩
  rcases lt_trichotomy z 0 with hneg | rfl | hpos
  · rw [Int.sign_eq_neg_one_of_neg hneg]
    omega
  · simp
  · rw [Int.sign_eq_one_of_pos hpos]
    omega

/-- A product by a word of sign + has the sign of the other factor. -/
theorem fmul_of_finiteNonneg {c d : Word} (hc : FiniteNonneg c) (hd : isFinite d = true) :
    fmul c d = signed d.sign (roundMag (units c * units d) (2 ^ 149)) := by
  simp [fmul, not_nan_inf_of_finite hc.1, not_nan_inf_of_finite hd, hc.2]

/-- A product by a word of [0, 1] lies between 0 and the other factor. -/
theorem fmul_unit {c d : Word} (hc : FiniteNonneg c) (hc1 : units c ≤ 2 ^ 149) (hd : isFinite d = true) :
    isFinite (fmul c d) = true ∧ (fmul c d).sign = d.sign ∧ units (fmul c d) ≤ units d := by
  have hbits : roundMag (units c * units d) (2 ^ 149) ≤ (fabs d).toNat := by
    rw [toNat_fabs, ← roundMag_units hd (Nat.two_pow_pos 149), Nat.mul_comm (units d)]
    exact roundMag_mono (Nat.two_pow_pos _) (Nat.mul_le_mul_right _ hc1)
  obtain ⟨hfin, hle⟩ := signed_finite_of_le d.sign (w := fabs d) ⟨by simpa using hd, sign_fabs d⟩ hbits
  rw [fmul_of_finiteNonneg hc hd]
  exact ⟨hfin, sign_signed _ (roundMag_lt _ _), by rwa [units_fabs] at hle⟩

/-- The exact sum of the interpolation lies between its ends, which are off by at most 2^-24, and 1 + 2^-24 is a tie
that rounds to 1. -/
theorem inUnit_interpolation {a b c : Word} (ha : InUnit a) (hb : InUnit b) (hc : FiniteNonneg c)
    (hc1 : units c ≤ 2 ^ 149) : InUnit (fadd a (fmul c (fsub b a))) := by
  obtain ⟨hd, herror⟩ := fsub_error ha hb
  obtain ⟨hx, hsign, hle⟩ := fmul_unit hc hc1 hd
  have hz : (sunits a + sunits (fmul c (fsub b a))).natAbs ≤ 2 ^ 149 + 2 ^ 125 := by
    have hbetween : sunits (fmul c (fsub b a)) ∈ Set.uIcc 0 (sunits (fsub b a)) := by
      rw [Set.mem_uIcc, sunits, sunits, hsign]
      cases (fsub b a).sign <;> simp <;> omega
    rw [Set.mem_uIcc] at hbetween
    have := natAbs_sunits a
    have := natAbs_sunits b
    have := ha.2
    have := hb.2
    omega
  have hbound := fadd_of_bounded ha.1 hx finiteNonneg_f1 (by decide +kernel) hz
  rwa [units_f1] at hbound

end Sys2Proof.Machine

namespace Sys2Proof.Machine

/-! ### The sine table (R380, R386) -/

theorem sineQuadrant_length : sineQuadrant.length = 257 := by decide +kernel

/-- The bits of every entry lie between those of +0.0 and of 1.0. -/
theorem toNat_le_of_mem_sineQuadrant {w : Word} (h : w ∈ sineQuadrant) : w.toNat ≤ f1.toNat := by
  have hall : (sineQuadrant.all fun w => w.toNat ≤ f1.toNat) = true := by decide +kernel
  simpa using List.all_eq_true.mp hall w h

theorem ne_zero_of_mem_sineQuadrant_tail {w : Word} (h : w ∈ sineQuadrant.tail) : w ≠ 0 := by
  have hall : (sineQuadrant.tail.all fun w => w != 0) = true := by decide +kernel
  simpa using List.all_eq_true.mp hall w h

theorem inUnit_of_mem_sineQuadrant {w : Word} (h : w ∈ sineQuadrant) : InUnit w := by
  have hle := toNat_le_of_mem_sineQuadrant h
  have hw : FiniteNonneg w := finiteNonneg_iff_toNat_lt.mpr (hle.trans_lt (by decide))
  exact ⟨hw.1, ((units_le_units_iff_toNat hw finiteNonneg_f1).mpr hle).trans_eq units_f1⟩

theorem sineHalf_eq_getElem {i : Nat} (h : i ≤ 512) :
    ∃ j, ∃ hj : j < sineQuadrant.length, (0 < i → i < 512 → 0 < j) ∧ sineHalf i = sineQuadrant[j] := by
  have hlen := sineQuadrant_length
  have hj : (if i ≤ 256 then i else 512 - i) < sineQuadrant.length := by split <;> omega
  refine ⟨_, hj, fun _ _ => by split <;> omega, ?_⟩
  rw [sineHalf, List.getD_eq_getElem _ _ hj]

theorem sineHalf_mem {i : Nat} (h : i ≤ 512) : sineHalf i ∈ sineQuadrant := by
  obtain ⟨j, hj, -, heq⟩ := sineHalf_eq_getElem h
  exact heq ▸ List.getElem_mem hj

/-- The half wave is zero only at its ends. -/
theorem sineHalf_ne_zero {i : Nat} (h0 : 0 < i) (h : i < 512) : sineHalf i ≠ 0 := by
  obtain ⟨j, hj, hpos, heq⟩ := sineHalf_eq_getElem h.le
  obtain ⟨j, rfl⟩ := Nat.exists_eq_succ_of_ne_zero (hpos h0 h).ne'
  refine heq ▸ ne_zero_of_mem_sineQuadrant_tail ?_
  rw [← List.getElem_tail (h := by rw [List.length_tail]; omega)]
  exact List.getElem_mem _

theorem sineTable_of_le {i : Nat} (h : i ≤ 512) : sineTable i = sineHalf i := if_pos h

theorem sineTable_lower {i : Nat} (h0 : 512 < i) (h : i < 1024) : sineTable i = fneg (sineHalf (i - 512)) := by
  rw [sineTable, if_neg (by omega), if_pos h, fneg]

theorem sineTable_of_ge {i : Nat} (h : 1024 ≤ i) : sineTable i = 0 := by
  rw [sineTable, if_neg (by omega), if_neg (by omega)]

/-- The table is the upper half wave, its negative, and +0.0 from there on. -/
theorem sineTable_cases (i : Nat) :
    i ≤ 512 ∧ sineTable i = sineHalf i ∨
    512 < i ∧ i < 1024 ∧ sineTable i = fneg (sineHalf (i - 512)) ∨ sineTable i = 0 := by
  rcases Nat.lt_or_ge 512 i with hlow | hup
  · rcases Nat.lt_or_ge i 1024 with h | h
    · exact .inr (.inl ⟨hlow, h, sineTable_lower hlow h⟩)
    · exact .inr (.inr (sineTable_of_ge h))
  · exact .inl ⟨hup, sineTable_of_le hup⟩

theorem inUnit_sineTable (i : Nat) : InUnit (sineTable i) := by
  rcases sineTable_cases i with ⟨h, heq⟩ | ⟨h0, h, heq⟩ | heq <;> rw [heq]
  · exact inUnit_of_mem_sineQuadrant (sineHalf_mem h)
  · exact (inUnit_of_mem_sineQuadrant (sineHalf_mem (by omega))).fneg
  · exact ⟨by decide, by decide⟩

theorem fneg_fneg (w : Word) : fneg (fneg w) = w := by simp [fneg]

theorem sineTable_ne_negZero (i : Nat) : sineTable i ≠ 0x80000000 := by
  rcases sineTable_cases i with ⟨h, heq⟩ | ⟨h0, h, heq⟩ | heq <;> rw [heq]
  · intro hneg
    exact absurd (toNat_le_of_mem_sineQuadrant (sineHalf_mem h)) (by rw [hneg]; decide)
  · intro hneg
    have hzero : sineHalf (i - 512) = fneg 0x80000000 := by rw [← hneg, fneg_fneg]
    exact sineHalf_ne_zero (by omega) (by omega) (hzero.trans (by decide))
  · decide

theorem map_sineTable_range : (List.range 257).map sineTable = sineListing := by
  have hlisting : sineListing = sineQuadrant := rfl
  rw [hlisting]
  refine List.ext_getElem (by simp [sineQuadrant_length]) fun i hi hi' => ?_
  have hle : i ≤ 256 := by rw [sineQuadrant_length] at hi'; omega
  rw [List.getElem_map, List.getElem_range, sineTable_of_le (by omega), sineHalf, if_pos hle,
    List.getD_eq_getElem _ _ hi']

theorem sineTable_mirror {i : Nat} (h : i ≤ 256) : sineTable (512 - i) = sineTable i := by
  rw [sineTable_of_le (by omega), sineTable_of_le (by omega), sineHalf, sineHalf, if_pos h]
  congr 1
  split <;> omega

/-! ### The sine (R381) -/

/-- The fraction fr of a step of the table at phase p. -/
def sineFrac (p : Word) : Word := fmul (toF32 (p.toNat % 2 ^ 22)) 0x34800000

theorem waveSine_eq (p : Word) :
    waveSine p = fadd (sineTable (p.toNat / 2 ^ 22))
      (fmul (sineFrac p) (fsub (sineTable (p.toNat / 2 ^ 22 + 1)) (sineTable (p.toNat / 2 ^ 22)))) := rfl

/-- The fraction is exact, a 22-bit number over 2^22. -/
theorem sineFrac_exact (p : Word) :
    FiniteNonneg (sineFrac p) ∧ units (sineFrac p) = p.toNat % 2 ^ 22 * 2 ^ 127 := by
  have hlt : p.toNat % 2 ^ 22 < 2 ^ 24 := (Nat.mod_lt _ (by norm_num)).trans (by norm_num)
  obtain ⟨hnat, hunits⟩ := toF32_exact hlt
  obtain ⟨w, hw, hwunits⟩ := exists_units_eq_mul_two_pow (e := 127) (by norm_num) hlt
  have hstep : FiniteNonneg 0x34800000 ∧ units 0x34800000 = 2 ^ 127 := by
    unfold FiniteNonneg; decide +kernel
  have heq : sineFrac p = w := by
    refine BitVec.eq_of_toNat_eq ?_
    rw [sineFrac, toNat_fmul_of_finiteNonneg hnat hstep.1, hunits, hstep.2, mul_right_comm, ← hwunits,
      roundMag_units hw.1 (Nat.two_pow_pos _), toNat_mod_of_sign_false hw.2]
  rw [heq]
  exact ⟨hw, hwunits⟩

theorem units_sineFrac_le (p : Word) : units (sineFrac p) ≤ 2 ^ 149 := by
  rw [(sineFrac_exact p).2]
  omega

theorem value_sineFrac (p : Word) : value (sineFrac p) = ((p.toNat % 2 ^ 22 : Nat) : ℚ) / 2 ^ 22 := by
  obtain ⟨hfrac, hunits⟩ := sineFrac_exact p
  rw [value_of_sunits (sunits_of_sign_false hfrac.2), hunits, Nat.cast_mul,
    div_eq_div_iff (by positivity) (by positivity)]
  push_cast
  ring

theorem inUnit_waveSine (p : Word) : InUnit (waveSine p) :=
  inUnit_interpolation (inUnit_sineTable _) (inUnit_sineTable _) (sineFrac_exact p).1 (units_sineFrac_le p)

theorem signed_sign_mod (w : Word) : signed w.sign (w.toNat % 2 ^ 31) = w := by
  have := w.isLt
  refine BitVec.eq_of_toNat_eq ?_
  rw [signed_toNat _ (Nat.mod_lt _ (by norm_num)), sign_eq]
  simp only [decide_eq_true_eq]
  split <;> omega

/-- A zero added to a finite word other than -0.0 leaves it. -/
theorem fadd_zero {a b : Word} (ha : isFinite a = true) (hne : a ≠ 0x80000000) (hb : isFinite b = true)
    (hzero : units b = 0) : fadd a b = a := by
  have hbits := roundMag_units ha one_pos
  rw [mul_one] at hbits
  have hsum : sunits a + sunits b = sunits a := by have := natAbs_sunits b; omega
  simp only [fadd, not_nan_inf_of_finite ha, not_nan_inf_of_finite hb, hsum, Bool.or_self, Bool.false_eq_true, if_false]
  have ha' := signed_sign_mod a
  rw [← hbits] at ha'
  split
  case isTrue hz =>
    have hunits : units a = 0 := by rw [← natAbs_sunits, hz]; rfl
    rw [hunits, roundMag_zero one_pos] at ha'
    cases hs : a.sign
    case false => rwa [hs] at ha'
    case true => exact absurd (ha'.symm.trans (by rw [hs]; decide)) hne
  case isFalse hz =>
    have hs : decide (sunits a < 0) = a.sign := by
      cases h : a.sign
      case false => simp [sunits_of_sign_false h]
      case true => exact decide_eq_true (lt_of_le_of_ne (by simp [sunits, h]) hz)
    rwa [hs, natAbs_sunits]

/-- At the start of a step the fraction is +0.0, and no entry is -0.0. -/
theorem waveSine_at_entry {k : Nat} (hk : k < 1024) : waveSine (BitVec.ofNat 32 (k * 2 ^ 22)) = sineTable k := by
  have hp : (BitVec.ofNat 32 (k * 2 ^ 22)).toNat = k * 2 ^ 22 := by
    rw [BitVec.toNat_ofNat]; exact Nat.mod_eq_of_lt (by omega)
  obtain ⟨hfrac, hunits⟩ := sineFrac_exact (BitVec.ofNat 32 (k * 2 ^ 22))
  rw [hp, Nat.mul_mod_left, Nat.zero_mul] at hunits
  have hd := (fsub_error (inUnit_sineTable k) (inUnit_sineTable (k + 1))).1
  rw [waveSine_eq, hp, Nat.mul_div_cancel _ (Nat.two_pow_pos 22), fmul_of_finiteNonneg hfrac hd, hunits, Nat.zero_mul,
    roundMag_zero (Nat.two_pow_pos _)]
  refine fadd_zero (inUnit_sineTable k).1 (sineTable_ne_negZero k) ?_ ?_
  all_goals cases (fsub (sineTable (k + 1)) (sineTable k)).sign <;> rfl

/-! ### Triangle and sawtooth (R382, R384) -/

theorem waveTriangle_eq (p : Word) : waveTriangle p =
    if p.toNat < 2 ^ 30 then rn32 (p.toNat % 2 ^ 30) 30
    else if p.toNat < 2 ^ 31 then fsub f1 (rn32 (p.toNat % 2 ^ 30) 30)
    else if p.toNat < 3 * 2 ^ 30 then fsub 0 (rn32 (p.toNat % 2 ^ 30) 30)
    else fsub (rn32 (p.toNat % 2 ^ 30) 30) f1 := by
  have := p.isLt
  unfold waveTriangle
  split
  case h_1 => rw [if_pos (by omega)]
  case h_2 => rw [if_neg (by omega), if_pos (by omega)]
  case h_3 => rw [if_neg (by omega), if_neg (by omega), if_pos (by omega)]
  case h_4 h0 h1 h2 =>
    obtain ⟨h0, h1, h2⟩ : p.toNat / 2 ^ 30 ≠ 0 ∧ p.toNat / 2 ^ 30 ≠ 1 ∧ p.toNat / 2 ^ 30 ≠ 2 := ⟨h0, h1, h2⟩
    rw [if_neg (by omega), if_neg (by omega), if_neg (by omega)]

/-- The triangle's t is the nearest word to the phase within its quarter, and at most 1. -/
theorem triangle_fraction (p : Word) :
    IsNearestEven (((p.toNat % 2 ^ 30 : Nat) : ℚ) / 2 ^ 30) (rn32 (p.toNat % 2 ^ 30) 30) ∧
    FiniteNonneg (rn32 (p.toNat % 2 ^ 30) 30) ∧ units (rn32 (p.toNat % 2 ^ 30) 30) ≤ 2 ^ 149 := by
  have h := rn32_of_le_units (n := p.toNat % 2 ^ 30) (j := 30) (by norm_num) finiteNonneg_f1 (by rw [units_f1]; omega)
  rwa [units_f1] at h

theorem inUnit_waveTriangle (p : Word) : InUnit (waveTriangle p) := by
  obtain ⟨-, ht, hle⟩ := triangle_fraction p
  rw [waveTriangle_eq]
  generalize rn32 (p.toNat % 2 ^ 30) 30 = t at ht hle ⊢
  have hfirst : units t ≤ units f1 + 2 ^ 149 := hle.trans (Nat.le_add_left _ _)
  have hlast : units f1 ≤ units t + 2 ^ 149 := by rw [units_f1]; exact Nat.le_add_left _ _
  split
  · exact ⟨ht.1, hle⟩
  split
  · exact inUnit_fsub finiteNonneg_f1 ht hlast hfirst
  split
  · exact inUnit_fsub ⟨by decide, by decide⟩ ht (Nat.zero_le _) (hle.trans (Nat.le_add_left _ _))
  · exact inUnit_fsub ht finiteNonneg_f1 hfirst hlast

/-- The sawtooth's t is the nearest word to p / 2^31, and at most 2. -/
theorem saw_ramp (p : Word) :
    IsNearestEven ((p.toNat : ℚ) / 2 ^ 31) (rn32 p.toNat 31) ∧
    FiniteNonneg (rn32 p.toNat 31) ∧ units (rn32 p.toNat 31) ≤ 2 ^ 150 := by
  have h := rn32_of_le_units (n := p.toNat) (j := 31) (by norm_num) finiteNonneg_f2
    (by rw [units_f2]; have := p.isLt; omega)
  rwa [units_f2] at h

theorem inUnit_waveSaw (p : Word) : InUnit (waveSaw p) := by
  obtain ⟨-, ht, hle⟩ := saw_ramp p
  refine inUnit_fsub ht finiteNonneg_f1 ?_ ?_ <;> rw [units_f1] <;> omega

theorem inUnit_waveSquare (p : Word) : InUnit (waveSquare p) := by
  have hone : InUnit f1 := ⟨by decide, units_f1.le⟩
  unfold waveSquare
  split
  · exact hone
  · exact hone.fneg

theorem inUnit_waveAt (w : Waveform) (p : Word) {held : Word} (h : InUnit held) : InUnit (waveAt w p held) := by
  cases w with
  | sine => exact inUnit_waveSine p
  | triangle => exact inUnit_waveTriangle p
  | square => exact inUnit_waveSquare p
  | sawtooth => exact inUnit_waveSaw p
  | random => exact h

/-- Settles O51: the sine interpolates between two table words of [-1, 1], every other computed value is ±1 or a
difference of two words of sign + that differ by at most 1, and RN32 of a fraction is the nearest word. -/
theorem waveformsStayInRange : Obligations.WaveformsStayInRange := by
  refine ⟨fun w p held hheld => ?_, fun p held => ⟨?_, ?_, ?_, ?_, rfl⟩, fun k held hk => waveSine_at_entry hk,
    map_sineTable_range, fun i => sineTable_mirror, fun i h0 h => ?_, rfl, rfl⟩
  · have h := inUnit_waveAt w p (inUnit_of_fLe hheld)
    exact ⟨h.1, h.abs_value_le_one⟩
  · exact ⟨sineFrac p, (sineFrac_exact p).1.1, value_sineFrac p, rfl⟩
  · exact ⟨_, (triangle_fraction p).1, waveTriangle_eq p⟩
  · rfl
  · exact ⟨_, (saw_ramp p).1, rfl⟩
  · rw [sineTable_lower (by omega) (by omega), sineTable_of_le h.le, Nat.add_sub_cancel_left, fneg]

end Sys2Proof.Machine

namespace Sys2Proof.Machine

/-! ### One sample into a convolver unit (R415, R417) -/

section
variable {p : Limits} {c : CvUnit} {v : Word}

theorem CvUnit.push_of_ne (h : c.n + 1 ≠ c.blk) : c.push p v = (c.accept v, 0) := if_neg h

theorem CvUnit.push_of_eq (h : c.n + 1 = c.blk) : c.push p v = (c.accept v).finishBlock p := if_pos h

/-- What INB holds of a sample taken in. -/
theorem CvUnit.read_inb_accept (hwf : c.inb.wf) (k : Nat) :
    (c.accept v).inb.read k = if k = c.n then v else c.inb.read k := Mem.read_write hwf c.n v k

/-- OUTB after a block holds the sanitized values of BlockOut, and +0.0 past them. -/
theorem CvUnit.read_outb_finishBlock (p : Limits) (c : CvUnit) (k : Nat) :
    (c.finishBlock p).1.outb.read k = if k < c.blk then (sanitize (c.blockRaw p k)).1 else 0 := by
  simp only [CvUnit.finishBlock, CvUnit.blockOut, Mem.read_ofWords]
  split
  case isTrue hk => simp [hk]
  case isFalse hk => exact List.getD_eq_default _ _ (by simpa using hk)

theorem CvUnit.blockRaw_of_singleton {h0 : Word} (h : c.eh = [h0]) (i : Nat) :
    c.blockRaw p i = fmul h0 (c.inb.read i) := by simp [CvUnit.blockRaw, h]

end

/-! ### A one-tap unit is a delay line of B words (R425) -/

/-- The output a tap h0 gives for the input x: their product, sanitized (R417). -/
def tapOutput (h0 x : Word) : Word := (sanitize (fmul h0 x)).1

/-- A unit whose effective IR is the tap h0, inside a block, its INB in canonical form. -/
structure CvUnit.OneTap (h0 : Word) (c : CvUnit) : Prop where
  eh : c.eh = [h0]
  n : c.n < c.blk
  inbWf : c.inb.wf

/-- The next B outputs of a one-tap unit, whatever its next inputs are: the words of OUTB that the block has not yet
emitted, then the outputs of the block's inputs so far. -/
def CvUnit.delayLine (h0 : Word) (c : CvUnit) : List Word :=
  (List.range' c.n (c.blk - c.n)).map c.outb.read ++ (List.range c.n).map fun k => tapOutput h0 (c.inb.read k)

section
variable {h0 : Word} {c : CvUnit} (p : Limits) (x : Word)

theorem CvUnit.OneTap.push (h : c.OneTap h0) : (c.push p x).1.OneTap h0 := by
  have hwf : (c.accept x).inb.wf := Mem.write_wf h.inbWf c.n x
  have hn := h.n
  by_cases hlast : c.n + 1 = c.blk
  · rw [CvUnit.push_of_eq hlast]
    exact ⟨h.eh, show 0 < c.blk by omega, hwf⟩
  · rw [CvUnit.push_of_ne hlast]
    exact ⟨h.eh, show c.n + 1 < c.blk by omega, hwf⟩

/-- Taking a sample in appends its output to those of the block's inputs. -/
theorem CvUnit.OneTap.map_accept (h : c.OneTap h0) :
    ((List.range (c.n + 1)).map fun k => tapOutput h0 ((c.accept x).inb.read k)) =
      ((List.range c.n).map fun k => tapOutput h0 (c.inb.read k)) ++ [tapOutput h0 x] := by
  simp only [List.range_succ, List.map_append, List.map_singleton, CvUnit.read_inb_accept h.inbWf, if_true]
  congr 1
  refine List.map_congr_left fun k hk => ?_
  rw [if_neg (List.mem_range.mp hk).ne]

/-- The delay line starts with the word the next CVPROC emits. -/
theorem CvUnit.OneTap.delayLine_eq_cons (h : c.OneTap h0) :
    c.delayLine h0 = c.outb.read c.n :: ((List.range' (c.n + 1) (c.blk - (c.n + 1))).map c.outb.read ++
      (List.range c.n).map fun k => tapOutput h0 (c.inb.read k)) := by
  rw [CvUnit.delayLine, show c.blk - c.n = c.blk - (c.n + 1) + 1 by have := h.n; omega, List.range'_succ]
  rfl

/-- One sample moves the delay line on by one word. -/
theorem CvUnit.OneTap.delayLine_push (h : c.OneTap h0) :
    c.outb.read c.n :: (c.push p x).1.delayLine h0 = c.delayLine h0 ++ [tapOutput h0 x] := by
  rw [h.delayLine_eq_cons, List.cons_append, List.append_assoc, ← h.map_accept x]
  congr 1
  by_cases hlast : c.n + 1 = c.blk
  · rw [CvUnit.push_of_eq hlast]
    have houtput (k : Nat) (hk : k < c.n + 1) :
        ((c.accept x).finishBlock p).1.outb.read k = tapOutput h0 ((c.accept x).inb.read k) := by
      rw [CvUnit.read_outb_finishBlock, if_pos (hlast ▸ hk), CvUnit.blockRaw_of_singleton (c := c.accept x) h.eh,
        tapOutput]
    change (List.range' 0 c.blk).map _ ++ [] = _
    rw [← hlast, Nat.sub_self, ← List.range_eq_range', List.append_nil, List.range'_zero, List.map_nil, List.nil_append]
    exact List.map_congr_left fun k hk => houtput k (List.mem_range.mp hk)
  · rw [CvUnit.push_of_ne hlast]
    rfl

end

/-- A one-tap unit emits its delay line and then the outputs of its inputs. -/
theorem CvUnit.OneTap.outputs_eq {h0 : Word} {c : CvUnit} (p : Limits) (h : c.OneTap h0) (xs : List Word) :
    c.outputs p xs = (c.delayLine h0 ++ xs.map (tapOutput h0)).take xs.length := by
  induction xs generalizing c with
  | nil => rfl
  | cons x xs ih =>
    rw [CvUnit.outputs, ih (h.push p x), List.map_cons, List.append_cons, ← h.delayLine_push p x]
    rfl

theorem CvUnit.Cleared.delayLine_eq {c : CvUnit} (h : c.Cleared) (h0 : Word) :
    c.delayLine h0 = List.replicate c.blk 0 := by
  obtain ⟨hn, -, houtb, -⟩ := h
  have hread : Mem.read [] = fun _ => (0 : Word) := funext Mem.read_nil
  simp [CvUnit.delayLine, hn, houtb, hread]

/-- 1.0 *f v = v for every finite v, -0.0 included. -/
theorem fmul_f1 {v : Word} (h : isFinite v = true) : fmul f1 v = v := by
  rw [fmul_of_finiteNonneg finiteNonneg_f1 h, units_f1, Nat.mul_comm, roundMag_units h (Nat.two_pow_pos 149),
    signed_sign_mod]

/-- Settles O56: a cleared one-tap unit's delay line is B zeros, and each sample moves it on by one word. -/
theorem singleTapConvolverDelaysByOneBlock : Obligations.SingleTapConvolverDelaysByOneBlock := by
  intro p c h0 xs hcleared hblk heh hfinite
  have hunit : c.OneTap h0 := ⟨heh, hcleared.1.symm ▸ hblk, hcleared.2.1.symm ▸ Mem.nil_wf⟩
  have houtputs := hunit.outputs_eq p xs
  rw [hcleared.delayLine_eq] at houtputs
  refine ⟨houtputs, fun hone => ?_⟩
  have hidentity (x : Word) (hx : x ∈ xs) : tapOutput h0 x = id x := by
    rw [hone, tapOutput, show (0x3F800000 : Word) = f1 from rfl, fmul_f1 (hfinite x hx),
      sanitize_of_finite (hfinite x hx), id]
  rw [houtputs, List.map_congr_left hidentity, List.map_id]

end Sys2Proof.Machine

namespace Sys2Proof.Machine

/-! ### What a convolver command writes: a register, a unit, flags (R53, R69, R126) -/

theorem keepsExcept_setCv (s : State) (u : UnitIx) (x : CvUnit) : KeepsExcept [.cv] s (s.setCv u x) := by
  refine ⟨⟨by simp, rfl, rfl, rfl, rfl, rfl, rfl, rfl⟩, fun k hk => ?_⟩
  cases k
  case cv => simp at hk
  all_goals rfl

theorem keepsExcept_nil (s : State) : KeepsExcept [] s s :=
  ⟨⟨rfl, rfl, rfl, rfl, rfl, rfl, rfl, rfl⟩, fun k _ => by cases k <;> rfl⟩

theorem onlyCv_setCv (s : State) (u : UnitIx) (x : CvUnit) : OnlyCv u s (s.setCv u x) :=
  fun v hv => s.cvAt_setCv_ne u v x hv

theorem State.cvAt_setCv_self {s : State} {u : UnitIx} (hu : u.val < s.cv.length) (x : CvUnit) :
    (s.setCv u x).cvAt u = x := by simp [hu]

section
variable {i : Instr} {s : State} {u : UnitIx} {x : CvUnit} {f : FlagSet} {body : Word → Out}

/-- A legal command that replaces an existing convolver unit and flags completes on a prepared core. -/
theorem completes_of_setCv (hexec : exec i s = frame i s body) (hwf : i.wf s.params = true)
    (hprepared : s.prepared = true) (hu : u.val < s.cv.length)
    (hbody : body (encode i) = .next ((s.setCv u x).flag (encode i) f)) :
    Completes i s f [.cv] fun t => SameRegs s t ∧ OnlyCv u s t ∧ t.cvAt u = x :=
  completes_of_frame hexec hwf hprepared hbody ⟨rfl, rfl⟩ ((keepsExcept_setCv s u x).flag (encode i) f)
    ⟨fun _ => rfl, onlyCv_setCv s u x, State.cvAt_setCv_self hu x⟩

/-- A legal command that replaces an existing convolver unit, writes a data register and flags completes on a prepared
core. -/
theorem completes_of_setCv_setReg {rd : Reg} {v : Word} (hexec : exec i s = frame i s body)
    (hwf : i.wf s.params = true) (hprepared : s.prepared = true) (hu : u.val < s.cv.length)
    (hbody : body (encode i) = .next (((s.setCv u x).setReg rd v).flag (encode i) f)) :
    Completes i s f [.cv] fun t => Writes rd v s t ∧ OnlyCv u s t ∧ t.cvAt u = x :=
  completes_of_frame hexec hwf hprepared hbody ⟨rfl, rfl⟩ ((keepsExcept_setCv s u x).setReg_flag rd v (encode i) f)
    ⟨writes_setReg (s.setCv u x) rd v, onlyCv_setCv s u x, State.cvAt_setCv_self hu x⟩

end

/-! ### The convolver commands as framed commands (R411 to R415, R422 to R424) -/

theorem exec_cvcfg (ra : Reg) (u : UnitIx) (s : State) :
    exec (.cvcfg ra u) s = frame (.cvcfg ra u) s fun w =>
      let b := nearestBlock (s.reg ra).toNat
      .next ((s.setCv u { (s.cvAt u).clearStream with blk := b }).flag w (flagIf (b != (s.reg ra).toNat) flagCLAMP)) :=
  rfl

theorem exec_cvpush (ra : Reg) (u : UnitIx) (s : State) :
    exec (.cvpush ra u) s = frame (.cvpush ra u) s fun w =>
      if (s.cvAt u).stg.length < s.limits.irMaxLen then
        .next (s.setCv u { s.cvAt u with stg := (s.cvAt u).stg ++ [s.reg ra] })
      else .next (s.flag w flagRSRC) := rfl

theorem exec_cvload (rd : Reg) (u : UnitIx) (s : State) :
    exec (.cvload rd u) s = frame (.cvload rd u) s fun w =>
      .next (((s.setCv u (s.cvAt u).load).setReg rd (boolWord (s.cvAt u).loadable)).flag w
        (flagIf (!(s.cvAt u).loadable) flagFMT)) := rfl

theorem exec_cvproc (rd ra : Reg) (u : UnitIx) (s : State) :
    exec (.cvproc rd ra u) s = frame (.cvproc rd ra u) s fun w =>
      let v := sanitize (s.reg ra)
      let r := (s.cvAt u).push s.limits v.1
      .next (((s.setCv u r.1).setReg rd ((s.cvAt u).outb.read (s.cvAt u).n)).flag w (v.2 ||| r.2)) := rfl

theorem exec_cvlat (rd : Reg) (u : UnitIx) (s : State) :
    exec (.cvlat rd u) s = frame (.cvlat rd u) s fun _ =>
      .next (s.setReg rd (BitVec.ofNat 32 (s.cvAt u).blk)) := rfl

theorem exec_cvunld (u : UnitIx) (s : State) :
    exec (.cvunld u) s = frame (.cvunld u) s fun _ =>
      .next (s.setCv u { (s.cvAt u).clearStream with loaded := false }) := rfl

theorem exec_cvclr (u : UnitIx) (s : State) :
    exec (.cvclr u) s = frame (.cvclr u) s fun _ => .next (s.setCv u (s.cvAt u).clearStream) := rfl

/-! ### One CVPROC (R415, R417) -/

theorem completes_cvproc (rd ra : Reg) {u : UnitIx} {s : State} (hu : u.val < s.cv.length)
    (hprepared : s.prepared = true) {r : CvUnit × FlagSet}
    (hpush : (s.cvAt u).push s.limits (sanitize (s.reg ra)).1 = r) :
    Completes (.cvproc rd ra u) s ((sanitize (s.reg ra)).2 ||| r.2) [.cv] fun t =>
      Writes rd ((s.cvAt u).outb.read (s.cvAt u).n) s t ∧ OnlyCv u s t ∧ t.cvAt u = r.1 :=
  completes_of_setCv_setReg (exec_cvproc ..) (Instr.wf_of_unit rfl hu rfl) hprepared hu (by simp only [hpush])

/-- A completed block flags NUM exactly where BlockOut has a non-finite value. -/
theorem CvUnit.finishBlock_flags (p : Limits) (c : CvUnit) :
    (c.finishBlock p).2 = if ∀ k, k < c.blk → isFinite (c.blockRaw p k) = true then 0 else flagNUM := by
  have hany : ((c.blockOut p).any fun v => !isFinite v) = true ↔
      ¬∀ k, k < c.blk → isFinite (c.blockRaw p k) = true := by
    simp [CvUnit.blockOut]
  simp only [CvUnit.finishBlock, flagIf, hany, ite_not]

/-- Settles O54: CVPROC replaces the unit by the pushed one, which inside a block only takes the sample in and at its
end holds the block's sanitized output. -/
theorem convolverProcessesOneSample : Obligations.ConvolverProcessesOneSample := by
  intro rd ra u s i c x taken
  have hquiet : x.2 ||| 0 = x.2 := BitVec.or_zero
  refine ⟨obeysFrame_of_frame rfl (exec_cvproc ..), fun hu hprepared => ⟨fun hinside => ?_, fun hlast => ?_⟩⟩
  · have hpush : c.push s.limits x.1 = (taken, 0) := CvUnit.push_of_ne hinside
    rw [← hquiet, hpush]
    exact (completes_cvproc rd ra hu hprepared hpush).imp fun t ⟨hwrites, honly, hunit⟩ =>
      ⟨hwrites, honly, hunit, hunit⟩
  · have hpush : c.push s.limits x.1 = taken.finishBlock s.limits := CvUnit.push_of_eq hlast
    have hflags : x.2 ||| (taken.finishBlock s.limits).2 =
        if ∀ k, k < c.blk → isFinite (taken.blockRaw s.limits k) = true then x.2 else x.2 ||| flagNUM := by
      rw [CvUnit.finishBlock_flags, apply_ite (x.2 ||| ·), hquiet]
    have hread (k : Nat) : (taken.finishBlock s.limits).1.outb.read k =
        if k < c.blk then (sanitize (taken.blockRaw s.limits k)).1 else 0 := CvUnit.read_outb_finishBlock ..
    rw [← hflags, hpush]
    refine (completes_cvproc rd ra hu hprepared hpush).imp fun t ⟨hwrites, honly, hunit⟩ =>
      ⟨hwrites, honly, hunit, ?_, fun k hk => ?_, fun k hk => ?_⟩
    · rw [hunit, CvUnit.finishBlock]
    · rw [hunit, hread, if_pos hk]
    · rw [hunit, hread, if_neg hk.not_gt]

/-! ### Configuring and loading (R411 to R413, R422 to R424) -/

/-- Settles O52: CVLAT only writes a data register, each of the other commands only replaces its unit, by one whose
stream is cleared. -/
theorem convolverConfigurationCompletes : Obligations.ConvolverConfigurationCompletes := by
  intro rd ra u s c n
  refine ⟨obeysFrame_of_frame rfl (exec_cvcfg ..), obeysFrame_of_frame rfl (exec_cvlat ..),
    obeysFrame_of_frame rfl (exec_cvunld ..), obeysFrame_of_frame rfl (exec_cvclr ..), fun hu hprepared => ?_⟩
  have hwf {i : Instr} (hunit : i.unit s.params = some (u, s.cv.length)) (hchannel : i.channelOk s.params = true) :
      i.wf s.params = true := Instr.wf_of_unit hunit hu hchannel
  refine ⟨?cvcfg, ?cvlat, ?cvunld, ?cvclr⟩
  case cvcfg =>
    have hflag : flagIf (nearestBlock n != n) flagCLAMP = if nearestBlock n = n then 0 else flagCLAMP := by
      simp [flagIf]
    exact completes_of_setCv (exec_cvcfg ..) (hwf rfl rfl) hprepared hu (by rw [← hflag]; rfl)
  case cvlat => exact completes_of_setReg (exec_cvlat ..) (hwf rfl rfl) hprepared rfl
  case cvunld => exact completes_of_setCv (exec_cvunld ..) (hwf rfl rfl) hprepared hu (by rw [State.flag_zero]; rfl)
  case cvclr => exact completes_of_setCv (exec_cvclr ..) (hwf rfl rfl) hprepared hu (by rw [State.flag_zero]; rfl)

theorem CvUnit.loadable_iff {c : CvUnit} : c.loadable = true ↔ c.stg ≠ [] ∧ ∀ h ∈ c.stg, isFinite h = true := by
  simp [CvUnit.loadable]

theorem completes_cvload (rd : Reg) {u : UnitIx} {s : State} (hu : u.val < s.cv.length)
    (hprepared : s.prepared = true) :
    Completes (.cvload rd u) s (flagIf (!(s.cvAt u).loadable) flagFMT) [.cv] fun t =>
      Writes rd (boolWord (s.cvAt u).loadable) s t ∧ OnlyCv u s t ∧ t.cvAt u = (s.cvAt u).load :=
  completes_of_setCv_setReg (exec_cvload ..) (Instr.wf_of_unit rfl hu rfl) hprepared hu rfl

/-- Settles O53: CVPUSH branches on the length of the staging buffer, CVLOAD on `CvUnit.loadable`. -/
theorem convolverLoadingCompletes : Obligations.ConvolverLoadingCompletes := by
  intro rd ra u s c good
  refine ⟨obeysFrame_of_frame rfl (exec_cvpush ..), obeysFrame_of_frame rfl (exec_cvload ..), fun hu hprepared => ?_⟩
  have hload := completes_cvload rd hu hprepared
  refine ⟨fun hroom => ?_, fun hfull => ?_, fun hgood => ?_, fun hbad => ?_⟩
  · exact completes_of_setCv (exec_cvpush ..) (Instr.wf_of_unit rfl hu rfl) hprepared hu
      (by rw [State.flag_zero, if_pos hroom])
  · exact completes_of_frame (exec_cvpush ..) (Instr.wf_of_unit rfl hu rfl) hprepared (if_neg hfull.not_gt) ⟨rfl, rfl⟩
      ((keepsExcept_nil s).flag _ _) fun _ => rfl
  · rw [CvUnit.load, CvUnit.loadable_iff.mpr hgood] at hload
    exact hload
  · rw [CvUnit.load, Bool.eq_false_iff.mpr (mt CvUnit.loadable_iff.mp hbad)] at hload
    exact hload

end Sys2Proof.Machine

namespace Sys2Proof.Machine

/-! ### The window holds the newest inputs, oldest first (R418) -/

theorem getElem?_padded {l : List Word} {len k : Nat} (hk : k < len) :
    (l.take len ++ List.replicate (len - l.length) 0)[k]? = some (l.getD k 0) := by
  by_cases h : k < l.length
  · simp [List.getElem?_append, h, hk]
  · rw [List.getElem?_append_right (by simp; omega), List.getD_eq_default _ _ (by omega), List.getElem?_replicate,
      if_pos (by simp; omega)]

/-- The number of inputs the window holds, (P + 2) · B. -/
def CvUnit.windowLength (c : CvUnit) : Nat := (partitions c.eh.length c.blk + 2) * c.blk

section
variable {c : CvUnit}

theorem CvUnit.window_eq : c.window =
    (c.hist.take c.windowLength ++ List.replicate (c.windowLength - c.hist.length) 0).reverse := rfl

theorem CvUnit.window_getD {k : Nat} (hk : k < c.windowLength) :
    c.window.getD (c.windowLength - 1 - k) 0 = c.hist.getD k 0 := by
  have hlength : (c.hist.take c.windowLength ++ List.replicate (c.windowLength - c.hist.length) 0).length =
      c.windowLength := by simp; omega
  rw [CvUnit.window_eq, List.getD_eq_getElem?_getD, List.getElem?_reverse (by omega), hlength,
    show c.windowLength - 1 - (c.windowLength - 1 - k) = k by omega, getElem?_padded hk, Option.getD_some]

theorem CvUnit.exists_of_mem_window {x : Word} (hx : x ∈ c.window) : ∃ k < c.windowLength, c.hist.getD k 0 = x := by
  rw [CvUnit.window_eq, List.mem_reverse] at hx
  obtain ⟨k, hk, rfl⟩ := List.getElem_of_mem hx
  have hlt : k < c.windowLength := by simp at hk; omega
  exact ⟨k, hlt, Option.some.inj ((getElem?_padded hlt).symm.trans (List.getElem?_eq_getElem hk))⟩

theorem le_partitions_mul {el b : Nat} (hb : 0 < b) : el ≤ partitions el b * b := by
  have := Nat.lt_div_mul_add hb (a := el + b - 1)
  rw [partitions]
  omega

/-- The input that tap k meets in output i of the completed block. -/
theorem CvUnit.window_getD_sub {i k : Nat} (hi : i < c.blk) (hk : k < c.eh.length) :
    c.window.getD ((partitions c.eh.length c.blk + 1) * c.blk + i - k) 0 = c.hist.getD (c.blk - 1 - i + k) 0 := by
  have hpart := le_partitions_mul (el := c.eh.length) (show 0 < c.blk by omega)
  have hlength : c.windowLength = partitions c.eh.length c.blk * c.blk + 2 * c.blk := Nat.add_mul ..
  rw [← CvUnit.window_getD (by omega), Nat.add_mul]
  congr 1
  omega

end

/-! ### The tolerance on exact values (R416, R420) -/

theorem sunits_eq_value (w : Word) : (sunits w : ℚ) = value w * 2 ^ 149 := by simp [value]

theorem units_eq_abs_value (w : Word) : (units w : ℚ) = |value w| * 2 ^ 149 := by simp [abs_value]

/-- R(m) of an impulse response over a window that holds x_m at index m. -/
def exactConv (eh win : List Word) (m : Nat) : ℚ :=
  ((List.range eh.length).map fun k => value (eh.getD k 0) * value (win.getD (m - k) 0)).sum

theorem convExact_eq_exactConv (eh win : List Word) (m : Nat) :
    (convExact eh win m : ℚ) = exactConv eh win m * (2 ^ 149 * 2 ^ 149) := by
  rw [exactConv, ← List.sum_map_mul_right, convExact, Int.cast_list_sum, List.map_map]
  refine congrArg List.sum (List.map_congr_left fun k _ => ?_)
  simp only [Function.comp, Int.cast_mul, sunits_eq_value]
  ring

theorem irMass_eq_value (eh : List Word) : (irMass eh : ℚ) = (eh.map fun h => |value h|).sum * 2 ^ 149 := by
  simp only [irMass, Nat.cast_list_sum, List.map_map, ← List.sum_map_mul_right, ← units_eq_abs_value]
  rfl

/-- A bound of the exact values bounds the peak. -/
theorem peakOf_le {win : List Word} {M : ℚ} (hM : 0 ≤ M) (h : ∀ x ∈ win, |value x| ≤ M) :
    (peakOf win : ℚ) ≤ M * 2 ^ 149 := by
  refine List.foldlRecOn (win.map units) max (motive := fun n : Nat => (n : ℚ) ≤ M * 2 ^ 149) ?zero ?max
  case zero => exact Nat.cast_zero.trans_le (mul_nonneg hM (by positivity))
  case max =>
    intro n hn m hm
    obtain ⟨x, hx, rfl⟩ := List.mem_map.mp hm
    rw [Nat.cast_max, units_eq_abs_value]
    exact max_le hn (mul_le_mul_of_nonneg_right (h x hx) (by positivity))

/-- The bound of R420 on an error e, from the bound in units of 1/D. -/
theorem le_of_scaled_le {e den num mass peak M D : ℚ} (hD : 0 < D) (hden : 0 < den) (hnum : 0 ≤ num)
    (hmass : 0 ≤ mass) (hpeak : peak ≤ M * D) (h : e * (D * D) * den ≤ num * (mass * D * peak)) :
    e ≤ num / den * mass * M := by
  rw [div_mul_eq_mul_div, div_mul_eq_mul_div, le_div_iff₀ hden]
  refine le_of_mul_le_mul_right ?_ (mul_pos hD hD)
  calc e * den * (D * D) = e * (D * D) * den := by ring
    _ ≤ num * (mass * D * peak) := h
    _ ≤ num * (mass * D * (M * D)) := by gcongr
    _ = num * mass * M * (D * D) := by ring

/-- P-CONV-BOUND on exact values. -/
theorem abs_sub_le_of_withinConvTol {p : Limits} {eh win : List Word} {b i : Nat} {out : Word}
    (hden : 0 < p.convTolDen) (h : withinConvTol p eh b win i out = true) {M : ℚ} (hM : 0 ≤ M)
    (hpeak : ∀ x ∈ win, |value x| ≤ M) :
    |value out - exactConv eh win ((partitions eh.length b + 1) * b + i)| ≤
      (p.convTolNum : ℚ) / p.convTolDen * ((eh.map fun h => |value h|).sum) * M := by
  have hunits : ((sunits out * 2 ^ 149 - convExact eh win ((partitions eh.length b + 1) * b + i)).natAbs *
      p.convTolDen : ℚ) ≤ p.convTolNum * (irMass eh * peakOf win) := by exact_mod_cast of_decide_eq_true h
  rw [Nat.cast_natAbs, Int.cast_abs, Int.cast_sub, Int.cast_mul, Int.cast_pow, Int.cast_ofNat, convExact_eq_exactConv,
    sunits_eq_value, mul_assoc, ← sub_mul, abs_mul, abs_of_pos (show (0 : ℚ) < 2 ^ 149 * 2 ^ 149 by positivity),
    irMass_eq_value] at hunits
  exact le_of_scaled_le (by positivity) (by exact_mod_cast hden) (Nat.cast_nonneg _)
    (List.sum_nonneg (List.forall_mem_map.mpr fun _ _ => abs_nonneg _)) (peakOf_le hM hpeak) hunits

/-- CONV_NUM is finite only within the tolerance (R420). -/
theorem withinConvTol_convNum {p : Limits} {eh win : List Word} {b i : Nat}
    (h : isFinite (convNum p eh b win i) = true) : withinConvTol p eh b win i (convNum p eh b win i) = true := by
  simp only [convNum] at h ⊢
  generalize (Config.convRaw eh b win).getD i 0 = out at h ⊢
  split at h
  case isTrue => exact absurd h (by decide)
  case isFalse hkept =>
    rw [if_neg hkept]
    simpa [h] using hkept

/-! ### The block's inputs as INB and HIST hold them (R415, R417) -/

/-- When a block completes, INB holds the newest B inputs. -/
theorem CvUnit.Inv.read_inb_accept {limit : Nat} {c : CvUnit} (h : c.Inv limit) (v : Word) (hlast : c.n + 1 = c.blk)
    {i : Nat} (hi : i < c.blk) : (c.accept v).inb.read i = (v :: c.hist).getD (c.blk - 1 - i) 0 := by
  rw [CvUnit.read_inb_accept h.inbWf]
  split
  case isTrue hnew => rw [show c.blk - 1 - i = 0 by omega, List.getD_cons_zero]
  case isFalse hold =>
    rw [h.inbHist i (by omega), show c.blk - 1 - i = c.n - 1 - i + 1 by omega, List.getD_cons_succ]

/-- Over the window of a completed block, R(jB + i) meets the inputs HIST lists. -/
theorem CvUnit.exactConv_window (c : CvUnit) {i : Nat} (hi : i < c.blk) :
    exactConv c.eh c.window ((partitions c.eh.length c.blk + 1) * c.blk + i) =
      ((List.range c.eh.length).map fun k =>
        value (c.eh.getD k 0) * value (c.hist.getD (c.blk - 1 - i + k) 0)).sum := by
  refine congrArg List.sum (List.map_congr_left fun k hk => ?_)
  rw [CvUnit.window_getD_sub hi (List.mem_range.mp hk)]

/-- Settles O55: the scalar path reads INB, whose words are the newest inputs, and a finite CONV_NUM is within the
tolerance of the exact convolution over the window, which holds them too. -/
theorem blockOutputIsWithinTolerance : Obligations.BlockOutputIsWithinTolerance := by
  intro p c v i hden hinv hv hlast hi eh hist out
  refine ⟨fun hone => ?_, fun htwo => ?_⟩
  · rw [← hinv.read_inb_accept v hlast hi]
    exact if_pos hone
  · have hout : out = convNum p (c.accept v).eh (c.accept v).blk (c.accept v).window i :=
      if_neg (show eh.length ≠ 1 by omega)
    cases hfinite : isFinite out
    case false => exact .inl rfl
    case true =>
      refine .inr fun M hM => ?_
      have hwithin := withinConvTol_convNum (hout ▸ hfinite)
      have hpeak : ∀ x ∈ (c.accept v).window, |value x| ≤ M := by
        intro x hx
        obtain ⟨k, hk, rfl⟩ := CvUnit.exists_of_mem_window hx
        exact hM k hk
      have hnonneg : 0 ≤ M := (abs_nonneg _).trans (hM 0 (Nat.mul_pos (Nat.succ_pos _) (Nat.zero_lt_of_lt hi)))
      have hbound := abs_sub_le_of_withinConvTol hden hwithin hnonneg hpeak
      rw [← hout, (c.accept v).exactConv_window hi] at hbound
      exact hbound

end Sys2Proof.Machine

namespace Sys2Proof.Machine

/-! ### What a gate command writes: a register, a slot (R53, R70, R126) -/

theorem keepsExcept_setPg (s : State) (u : UnitIx) (x : PgSlot) : KeepsExcept [.pg] s (s.setPg u x) := by
  refine ⟨⟨by simp, rfl, rfl, rfl, rfl, rfl, rfl, rfl⟩, fun k hk => ?_⟩
  cases k
  case pg => simp at hk
  all_goals rfl

theorem onlyPg_setPg (s : State) (u : UnitIx) (x : PgSlot) : OnlyPg u s (s.setPg u x) :=
  fun v hv => s.pgAt_setPg_ne u v x hv

theorem State.pgAt_setPg_self {s : State} {u : UnitIx} (hu : u.val < s.pg.length) (x : PgSlot) :
    (s.setPg u x).pgAt u = x := by simp [hu]

/-! ### The gate commands as framed commands (R461 to R463) -/

theorem exec_pgset (ra : Reg) (u : UnitIx) (s : State) :
    exec (.pgset ra u) s = frame (.pgset ra u) s fun _ =>
      .next (s.setPg u { s.pgAt u with pval := s.reg ra }) := rfl

theorem exec_pgchk (rd : Reg) (u : UnitIx) (s : State) :
    exec (.pgchk rd u) s = frame (.pgchk rd u) s fun _ =>
      .next ((s.setPg u (s.pgAt u).rearm).setReg rd (boolWord (s.pgAt u).changed)) := rfl

theorem exec_pgget (rd : Reg) (u : UnitIx) (s : State) :
    exec (.pgget rd u) s = frame (.pgget rd u) s fun _ => .next (s.setReg rd (s.pgAt u).pval) := rfl

theorem boolWord_changed (p : PgSlot) :
    boolWord p.changed = if p.valid = false ∨ p.pval ≠ p.last then 1 else 0 := by
  simp [boolWord, PgSlot.changed]

theorem completes_pgset (ra : Reg) {u : UnitIx} {s : State} (hu : u.val < s.pg.length) (hprepared : s.prepared = true) :
    Completes (.pgset ra u) s 0 [.pg] fun t =>
      SameRegs s t ∧ OnlyPg u s t ∧ t.pgAt u = { s.pgAt u with pval := s.reg ra } :=
  completes_of_frame (exec_pgset ..) (Instr.wf_of_unit rfl hu rfl) hprepared rfl ⟨BitVec.or_zero.symm, rfl⟩
    (keepsExcept_setPg ..) ⟨fun _ => rfl, onlyPg_setPg s u _, State.pgAt_setPg_self hu _⟩

theorem completes_pgchk (rd : Reg) {u : UnitIx} {s : State} (hu : u.val < s.pg.length) (hprepared : s.prepared = true) :
    Completes (.pgchk rd u) s 0 [.pg] fun t =>
      Writes rd (if (s.pgAt u).valid = false ∨ (s.pgAt u).pval ≠ (s.pgAt u).last then 1 else 0) s t ∧ OnlyPg u s t ∧
      t.pgAt u = (s.pgAt u).rearm := by
  rw [← boolWord_changed]
  have hkeeps := (keepsExcept_setPg s u (s.pgAt u).rearm).setReg_flag rd (boolWord (s.pgAt u).changed) 0 0
  rw [State.flag_zero] at hkeeps
  exact completes_of_frame (exec_pgchk ..) (Instr.wf_of_unit rfl hu rfl) hprepared rfl ⟨BitVec.or_zero.symm, rfl⟩ hkeeps
    ⟨writes_setReg (s.setPg u _) rd _, onlyPg_setPg s u _, State.pgAt_setPg_self hu _⟩

/-- Settles O58: PGSET and PGCHK replace the slot, PGCHK and PGGET write one data register. -/
theorem parameterGateCommandsComplete : Obligations.ParameterGateCommandsComplete := by
  intro rd ra u s p
  refine ⟨obeysFrame_of_frame rfl (exec_pgset ..), obeysFrame_of_frame rfl (exec_pgchk ..),
    obeysFrame_of_frame rfl (exec_pgget ..), fun hu hprepared => ⟨?pgset, ?pgchk, ?pgget⟩⟩
  case pgset => exact completes_pgset ra hu hprepared
  case pgchk => exact completes_pgchk rd hu hprepared
  case pgget => exact completes_of_setReg (exec_pgget ..) (Instr.wf_of_unit rfl hu rfl) hprepared rfl

/-! ### What keeps a slot's last check in force (R461, R462, R464) -/

/-- LAST and VALID of slot u, the number of slots and PREPARED are the same in two states: what the next check of the
slot compares PVAL with, and what lets it run. -/
structure KeepsLastCheck (u : UnitIx) (s t : State) : Prop where
  prepared : t.prepared = s.prepared
  slots : t.pg.length = s.pg.length
  last : (t.pgAt u).last = (s.pgAt u).last
  valid : (t.pgAt u).valid = (s.pgAt u).valid

section
variable {u : UnitIx} {s t t' : State}

theorem KeepsLastCheck.trans (h : KeepsLastCheck u s t) (h' : KeepsLastCheck u t t') : KeepsLastCheck u s t' :=
  ⟨h'.prepared.trans h.prepared, h'.slots.trans h.slots, h'.last.trans h.last, h'.valid.trans h.valid⟩

theorem KeepsLastCheck.of_next (h : KeepsLastCheck u s t') (hnext : (.next t' : Out) = .next t) :
    KeepsLastCheck u s t := by
  cases hnext
  exact h

theorem KeepsLastCheck.of_ite {c : Prop} [Decidable c] {o o' : Out} (h : o = .next t → KeepsLastCheck u s t)
    (h' : o' = .next t → KeepsLastCheck u s t) (hnext : (if c then o else o') = .next t) : KeepsLastCheck u s t := by
  split at hnext
  · exact h hnext
  · exact h' hnext

/-- Raising ILL or SEQ reaches no slot, so a framed command keeps the last check if its body does. -/
theorem KeepsLastCheck.of_frame {i : Instr} {body : Word → Out} (hnext : frame i s body = .next t)
    (hbody : body (encode i) = .next t → KeepsLastCheck u s t) : KeepsLastCheck u s t := by
  obtain ⟨-, hill⟩ | ⟨-, -, hseq⟩ | ⟨-, -, hrun⟩ := frame_cases hnext
  · cases hill
    exact ⟨rfl, rfl, rfl, rfl⟩
  · cases hseq
    exact ⟨rfl, rfl, rfl, rfl⟩
  · exact hbody hrun.symm

theorem KeepsLastCheck.of_glue2 {i : Instr} {op : Word → Word → Word} {rd ra rb : Reg}
    (hnext : glue2 i op rd ra rb s = .next t) : KeepsLastCheck u s t :=
  .of_frame hnext (.of_next ⟨rfl, rfl, rfl, rfl⟩)

theorem KeepsLastCheck.of_delayRead {i : Instr} {interp : Mem → DlUnit → Word → Word} {rd ra : Reg} {v : UnitIx}
    (hnext : delayRead i interp rd ra v s = .next t) : KeepsLastCheck u s t :=
  .of_frame hnext (.of_ite (.of_next ⟨rfl, rfl, rfl, rfl⟩) nofun)

/-- Another slot written. -/
theorem keepsLastCheck_setPg_ne {v : UnitIx} (hv : v ≠ u) (x : PgSlot) : KeepsLastCheck u s (s.setPg v x) := by
  have hslot := s.pgAt_setPg_ne v u x hv.symm
  exact ⟨rfl, by simp, by rw [hslot], by rw [hslot]⟩

/-- PVAL of any slot written (R461). -/
theorem keepsLastCheck_setPval (hu : u.val < s.pg.length) (v : UnitIx) (w : Word) :
    KeepsLastCheck u s (s.setPg v { s.pgAt v with pval := w }) := by
  by_cases hv : v = u
  · subst hv
    have hslot := State.pgAt_setPg_self hu { s.pgAt v with pval := w }
    exact ⟨rfl, by simp, by rw [hslot], by rw [hslot]⟩
  · exact keepsLastCheck_setPg_ne hv _

/-- Only PREPARE, RESET and a check of the slot itself touch its last check: PGSET writes PVAL, a check of another slot
writes that slot, and no other command reaches the gate. -/
theorem exec_keepsLastCheck {i : Instr} (hu : u.val < s.pg.length) (hglobal : i.global = false)
    (hcheck : ∀ r, i ≠ .pgchk r u) (h : exec i s = .next t) : KeepsLastCheck u s t := by
  unfold exec at h
  cases i
  case prepare | reset => cases hglobal
  case nop => exact .of_next ⟨rfl, rfl, rfl, rfl⟩ ((exec_nop s).symm.trans h)
  case pgset ra v => exact .of_frame h (.of_next (keepsLastCheck_setPval hu v _))
  case pgchk rd v =>
    have hv : v ≠ u := fun hv => hcheck rd (hv ▸ rfl)
    exact .of_frame h (.of_next ((keepsLastCheck_setPg_ne hv _).trans ⟨rfl, rfl, rfl, rfl⟩))
  case bqdes | envatk | envrel | cvpush =>
    exact .of_frame h (.of_ite (.of_next ⟨rfl, rfl, rfl, rfl⟩) (.of_next ⟨rfl, rfl, rfl, rfl⟩))
  case fadd | fsub | fmul => exact .of_glue2 h
  case dlrdl | dlrdc => exact .of_delayRead h
  case dlwr | dlclr => exact .of_frame h (.of_ite (.of_next ⟨rfl, rfl, rfl, rfl⟩) nofun)
  all_goals exact .of_frame h (.of_next ⟨rfl, rfl, rfl, rfl⟩)

theorem runOps_keepsLastCheck {ops : List HostOp} (hu : u.val < s.pg.length)
    (hops : ∀ op ∈ ops, ∀ i, op = .command i → i.global = false ∧ ∀ r, i ≠ .pgchk r u)
    (h : runOps ops s = .next t) : KeepsLastCheck u s t := by
  induction ops generalizing s with
  | nil => exact .of_next ⟨rfl, rfl, rfl, rfl⟩ h
  | cons op ops ih =>
    have hrest := fun op' hop' => hops op' (List.mem_cons_of_mem op hop')
    cases op with
    | load r v => exact KeepsLastCheck.trans (t := s.setReg r v) ⟨rfl, rfl, rfl, rfl⟩ (ih hu hrest h)
    | command i =>
      obtain ⟨hglobal, hcheck⟩ := hops _ List.mem_cons_self i rfl
      rw [runOps] at h
      split at h
      next s' hexec =>
        have hfirst := exec_keepsLastCheck hu hglobal hcheck hexec
        exact hfirst.trans (ih (hfirst.slots ▸ hu) hrest h)
      all_goals cases h

end

/-- What a command that completes promises holds of the state it leads to. -/
theorem Completes.of_exec {i : Instr} {s t : State} {f : FlagSet} {banks : List Bank} {post : State → Prop}
    (h : Completes i s f banks post) (hexec : exec i s = .next t) : KeepsExcept banks s t ∧ post t := by
  obtain ⟨t', hexec', -, hkeeps, hpost⟩ := h
  cases hexec.symm.trans hexec'
  exact ⟨hkeeps, hpost⟩

/-- Settles O59: the first check leaves VALID set and LAST at its PVAL, the run between keeps both, and the second check
compares its PVAL with LAST. -/
theorem gateReportsChangesOnly : Obligations.GateReportsChangesOnly := by
  intro rd rd' u ops s t1 t2 t3 hu hprepared hops hfirst hrun hsecond
  obtain ⟨⟨hsame, -⟩, -, -, hslot⟩ := (completes_pgchk rd hu hprepared).of_exec hfirst
  have hu1 : u.val < t1.pg.length := hu.trans_eq (congrArg Params.npg hsame.params).symm
  have hkeep := runOps_keepsLastCheck hu1 hops hrun
  have hprepared2 : t2.prepared = true := hkeep.prepared.trans (hsame.prepared.trans hprepared)
  obtain ⟨-, ⟨hreg, -⟩, -⟩ := (completes_pgchk rd' (hkeep.slots ▸ hu1) hprepared2).of_exec hsecond
  have hlast : (t2.pgAt u).last = (s.pgAt u).pval := by rw [hkeep.last, hslot, PgSlot.rearm]
  have hvalid : (t2.pgAt u).valid = true := by rw [hkeep.valid, hslot, PgSlot.rearm]
  simpa [hlast, hvalid] using hreg

end Sys2Proof.Machine

namespace Sys2Proof

/-! ### The opcode map and the field layout are inverse (R161, R164, R165) -/

theorem Instr.command_fields (i : Instr) : i.fields.command = .ok i := by
  cases i with
  | bqdes rd ra rb rc t u => exact Laws.FieldsRead.bqdes rd ra rb rc t u
  | bqrdc rd k u => exact Laws.FieldsRead.bqrdc rd k u
  | envcfg pol det u => exact Laws.FieldsRead.envcfg pol det u
  | lfowav wave u => exact Laws.FieldsRead.lfowav wave u
  | _ => rfl

theorem FilterType.toFn_of_ofFn {fn : Fin 16} {t : FilterType} (h : FilterType.ofFn fn = some t) : t.toFn = fn := by
  revert h
  cases t <;> decide +revert

theorem CoefIndex.toFn_of_ofFn {fn : Fin 16} {k : CoefIndex} (h : CoefIndex.ofFn fn = some k) : k.toFn = fn := by
  revert h
  cases k <;> decide +revert

theorem Waveform.toFn_of_ofFn {fn : Fin 16} {w : Waveform} (h : Waveform.ofFn fn = some w) : w.toFn = fn := by
  revert h
  cases w <;> decide +revert

theorem envcfgFn_ofFn {fn : Fin 16} (h : fn.val / 4 = 0) : envcfgFn (Policy.ofFn fn) (Detector.ofFn fn) = fn := by
  revert h
  decide +revert

theorem selected_map_eq_ok_iff {α : Type} {o : Option α} {g : α → Instr} {i : Instr} :
    selected (o.map g) = .ok i ↔ ∃ a, o = some a ∧ g a = i := by
  cases o <;> simp [selected]

/-- What the opcode map reads from the fields of a word is the command with those fields: R164 (b) makes the fields the
command does not use zero, and R164 (c) makes FN the number of its selector. -/
theorem Fields.fields_of_command {f : Fields} {i : Instr} (h : f.command = .ok i) : i.fields = f := by
  obtain ⟨⟨op, hop⟩, rd, ra, rb, rc, ch, fn, u⟩ := f
  unfold Fields.command at h
  split at h
  case h_42 => exact nomatch h
  all_goals
    rename_i hval
    obtain rfl : op = _ := hval
    obtain ⟨hzero, hi⟩ := unused_eq_ok_iff.mp h
    simp only [List.forall_mem_cons, List.not_mem_nil, false_imp_iff, implies_true, and_true,
      Fin.val_eq_zero_iff] at hzero
  case h_9 =>
    obtain ⟨t, ht, rfl⟩ := selected_map_eq_ok_iff.mp hi
    simp [Instr.fields, hzero, FilterType.toFn_of_ofFn ht]
  case h_12 =>
    obtain ⟨k, hk, rfl⟩ := selected_map_eq_ok_iff.mp hi
    simp [Instr.fields, hzero, CoefIndex.toFn_of_ofFn hk]
  case h_26 =>
    obtain ⟨w, hw, rfl⟩ := selected_map_eq_ok_iff.mp hi
    simp [Instr.fields, hzero, Waveform.toFn_of_ofFn hw]
  case h_18 =>
    obtain rfl := Except.ok.inj hi
    obtain ⟨hrd, hra, hrb, hrc, hch, hfn⟩ := hzero
    simp [Instr.fields, hrd, hra, hrb, hrc, hch, envcfgFn_ofFn hfn]
  all_goals
    obtain rfl := Except.ok.inj hi
    simp [Instr.fields, hzero]

theorem Fields.command_eq_ok_iff {f : Fields} {i : Instr} : f.command = .ok i ↔ i.fields = f :=
  ⟨Fields.fields_of_command, fun h => h ▸ i.command_fields⟩

theorem encode_eq_iff {i : Instr} {w : Word} : encode i = w ↔ i.fields = Fields.ofWord w := by
  rw [← Fields.ofWord_injective.eq_iff, encode, Fields.ofWord_toWord]

/-- Settles O8: decoding is the range checks and the opcode map, and the opcode map inverts the field layout, which
fills the word. -/
theorem decodeInvertsEncode : Obligations.DecodeInvertsEncode := by
  intro p w i
  rw [decode_eq_ok_iff, Fields.command_eq_ok_iff, encode_eq_iff, and_comm]

end Sys2Proof

namespace Sys2Proof

/-- Settles O10: each word by evaluation of the decoder. -/
theorem specWordsDecodeToTheirCommands : Obligations.SpecWordsDecodeToTheirCommands := by
  unfold Obligations.SpecWordsDecodeToTheirCommands
  and_intros
  all_goals rfl

end Sys2Proof

namespace Sys2Proof.Machine

/-! ### What a command can do, said once: at most one unit written, one data register, and flags (R53, R126, R127) -/

/-- What a command writes outside the data registers: nothing, or one unit, a delay unit together with the delay RAM. -/
inductive UnitWrite where
  | none
  | bq (u : UnitIx) (x : BqUnit)
  | dl (u : UnitIx) (x : DlUnit) (m : Mem)
  | env (u : UnitIx) (x : EnvUnit)
  | lfo (u : UnitIx) (x : LfoUnit)
  | cv (u : UnitIx) (x : CvUnit)
  | pg (u : UnitIx) (x : PgSlot)

/-- What an executed command other than NOP, PREPARE and RESET does. -/
structure Effect where
  unit : UnitWrite := .none
  result : Option (Reg × Word) := none
  flags : FlagSet := 0

def State.writeUnit (s : State) : UnitWrite → State
  | .none => s
  | .bq u x => s.setBq u x
  | .dl u x m => (s.setDl u x).setDmem m
  | .env u x => s.setEnv u x
  | .lfo u x => s.setLfo u x
  | .cv u x => s.setCv u x
  | .pg u x => s.setPg u x

def State.writeResult (s : State) : Option (Reg × Word) → State
  | none => s
  | some (rd, v) => s.setReg rd v

/-- The state an effect of the command of word w leaves. -/
def State.after (s : State) (e : Effect) (w : Word) : State :=
  ((s.writeUnit e.unit).writeResult e.result).flag w e.flags

/-- A sample result v with the flags f of its operands (R12). -/
def sampleEffect (rd : Reg) (v : Word) (f : FlagSet) : Effect where
  result := some (rd, (sanitize v).1)
  flags := f ||| (sanitize v).2

/-- The region in DMEM that a delay command reads or writes exists (R72 (ii)); the other commands need none. -/
def State.hasRegion (s : State) : Instr → Bool
  | .dlwr _ u | .dlrdl _ _ u | .dlrdc _ _ u | .dlclr u => (s.dlAt u).regionOk s.limits.dmemWords
  | _ => true

/-- The effect of each command other than NOP, PREPARE and RESET, by `exec_eq_frame` what `exec` runs. -/
def State.effect (s : State) : Instr → Effect
  | .nop | .prepare _ _ | .reset => {}
  | .fadd rd ra rb => sampleEffect rd (fadd (s.sample ra).1 (s.sample rb).1) ((s.sample ra).2 ||| (s.sample rb).2)
  | .fsub rd ra rb => sampleEffect rd (fsub (s.sample ra).1 (s.sample rb).1) ((s.sample ra).2 ||| (s.sample rb).2)
  | .fmul rd ra rb => sampleEffect rd (fmul (s.sample ra).1 (s.sample rb).1) ((s.sample ra).2 ||| (s.sample rb).2)
  | .fmac rd ra rb rc =>
    sampleEffect rd (fadd (s.sample ra).1 (fmul (s.sample rb).1 (s.sample rc).1))
      ((s.sample ra).2 ||| (s.sample rb).2 ||| (s.sample rc).2)
  | .sclip rd ra => sampleEffect rd (tanh32 (s.sample ra).1) (s.sample ra).2
  | .bqdes rd ra rb rc t u =>
    if (s.bqAt u).keeps t (s.reg ra) (s.reg rb) (s.reg rc) s.sr then { result := some (rd, 0) }
    else
      let d := design s.sr
        { s.bqAt u with type := t, rf := s.reg ra, rq := s.reg rb, rg := s.reg rc, designed := true }
      { unit := .bq u d.1, result := some (rd, 1), flags := d.2 }
  | .bqproc rd ra c u =>
    let r := biquadStep (s.bqAt u) c (s.sample ra).1
    { unit := .bq u r.2.1, result := some (rd, r.1), flags := (s.sample ra).2 ||| r.2.2 }
  | .bqclr u => { unit := .bq u (s.bqAt u).clear }
  | .bqrdc rd k u => { result := some (rd, (s.bqAt u).coef k) }
  | .dlcfg ra rb u =>
    let r := dlRegion s.limits.dmemWords (s.u32 ra) (s.u32 rb)
    { unit := .dl u r.1 (s.dmem.zeroRange r.1.base r.1.cap), flags := r.2 }
  | .dlwr ra u =>
    let d := (s.dlAt u).advance
    { unit := .dl u d (s.dmem.write (d.base + d.wi) (s.sample ra).1), flags := (s.sample ra).2 }
  | .dlrdl rd ra u =>
    let D := delayClamp (s.reg ra) (s.dlAt u)
    sampleEffect rd (lin s.dmem (s.dlAt u) D.1) D.2
  | .dlrdc rd ra u =>
    let D := delayClamp (s.reg ra) (s.dlAt u)
    sampleEffect rd (cub s.dmem (s.dlAt u) D.1) D.2
  | .dlclr u => { unit := .dl u (s.dlAt u).clear (s.dmem.zeroRange (s.dlAt u).base (s.dlAt u).cap) }
  | .envcfg pol det u => { unit := .env u { (s.envAt u).clearRms with pol := pol, det := det } }
  | .envatk rd ra u =>
    if (s.envAt u).rta = s.reg ra ∧ (s.envAt u).cfsa = s.sr then { result := some (rd, 0) }
    else
      let c := envCoef s.sr (s.reg ra)
      { unit := .env u { s.envAt u with rta := s.reg ra, ac := c.1.1, ag := c.1.2, cfsa := s.sr }
        result := some (rd, 1), flags := c.2 }
  | .envrel rd ra u =>
    if (s.envAt u).rtr = s.reg ra ∧ (s.envAt u).cfsr = s.sr then { result := some (rd, 0) }
    else
      let c := envCoef s.sr (s.reg ra)
      { unit := .env u { s.envAt u with rtr := s.reg ra, rc := c.1.1, rg := c.1.2, cfsr := s.sr }
        result := some (rd, 1), flags := c.2 }
  | .envwin ra u =>
    let n := winSamples s.limits.rmsWinMax s.sr (s.reg ra)
    { unit := .env u { (s.envAt u).clearRms with rwin := s.reg ra, w := n.1 }, flags := n.2 }
  | .envproc rd ra u =>
    let d := detect (s.envAt u) (s.sample ra).1
    let f := follow d.2.1 d.1
    { unit := .env u f.1, result := some (rd, f.1.level), flags := (s.sample ra).2 ||| d.2.2 ||| f.2 }
  | .envdb rd ra =>
    sampleEffect rd (fmul f20 (log10_32 (if fLt fEpsDb (s.sample ra).1 then (s.sample ra).1 else fEpsDb)))
      (s.sample ra).2
  | .envclr u => { unit := .env u (s.envAt u).clear }
  | .lfofrq ra u =>
    let n := lfoInc s.sr (s.reg ra)
    { unit := .lfo u { s.lfoAt u with rfreq := s.reg ra, inc := n.1 }, flags := n.2 }
  | .lfowav wf u => { unit := .lfo u { s.lfoAt u with wave := wf } }
  | .lfoofs ra u =>
    let v := s.reg ra
    { unit := .lfo u { s.lfoAt u with ofs := if isFinite v then phaseOffset v else 0 }
      flags := flagIf (!isFinite v) flagCLAMP }
  | .lfotick rd u => { unit := .lfo u (s.lfoAt u).tick, result := some (rd, (s.lfoAt u).tick.value) }
  | .lfoseed ra u =>
    let v := if s.reg ra = 0 then 1 else s.reg ra
    { unit := .lfo u { s.lfoAt u with seed := v, rng := v }, flags := flagIf (s.reg ra == 0) flagCLAMP }
  | .lfordph rd u => { result := some (rd, (s.lfoAt u).phase) }
  | .lforst u => { unit := .lfo u (s.lfoAt u).restart }
  | .cvcfg ra u =>
    let b := nearestBlock (s.reg ra).toNat
    { unit := .cv u { (s.cvAt u).clearStream with blk := b }, flags := flagIf (b != (s.reg ra).toNat) flagCLAMP }
  | .cvpush ra u =>
    if (s.cvAt u).stg.length < s.limits.irMaxLen then
      { unit := .cv u { s.cvAt u with stg := (s.cvAt u).stg ++ [s.reg ra] } }
    else { flags := flagRSRC }
  | .cvload rd u =>
    { unit := .cv u (s.cvAt u).load, result := some (rd, boolWord (s.cvAt u).loadable)
      flags := flagIf (!(s.cvAt u).loadable) flagFMT }
  | .cvproc rd ra u =>
    let c := s.cvAt u
    let r := c.push s.limits (s.sample ra).1
    { unit := .cv u r.1, result := some (rd, c.outb.read c.n), flags := (s.sample ra).2 ||| r.2 }
  | .cvlat rd u => { result := some (rd, BitVec.ofNat 32 (s.cvAt u).blk) }
  | .cvunld u => { unit := .cv u { (s.cvAt u).clearStream with loaded := false } }
  | .cvclr u => { unit := .cv u (s.cvAt u).clearStream }
  | .pgset ra u => { unit := .pg u { s.pgAt u with pval := s.reg ra } }
  | .pgchk rd u => { unit := .pg u (s.pgAt u).rearm, result := some (rd, boolWord (s.pgAt u).changed) }
  | .pgget rd u => { result := some (rd, (s.pgAt u).pval) }

/-- What a framed command runs: its effect, where the region it needs exists. -/
def State.runEffect (s : State) (i : Instr) (w : Word) : Out :=
  if s.hasRegion i then .next (s.after (s.effect i) w) else .fault .dmemRegion

theorem State.after_of_flags_zero (s : State) {e : Effect} (h : e.flags = 0) (w : Word) :
    s.after e w = (s.writeUnit e.unit).writeResult e.result := by
  rw [State.after, h, State.flag_zero]

theorem State.runEffect_of_flags_zero {s : State} {i : Instr} (hregion : s.hasRegion i = true)
    (h : (s.effect i).flags = 0) (w : Word) :
    .next ((s.writeUnit (s.effect i).unit).writeResult (s.effect i).result) = s.runEffect i w := by
  rw [State.runEffect, if_pos hregion, s.after_of_flags_zero h]

/-- Every command but NOP, PREPARE and RESET is its effect in the frame of R172. -/
theorem exec_eq_frame {i : Instr} (h : i.always = false) (s : State) : exec i s = frame i s (s.runEffect i) := by
  have hbody {body : Word → Out} (hexec : exec i s = frame i s body) (hrun : ∀ w, body w = s.runEffect i w) :
      exec i s = frame i s (s.runEffect i) := hexec.trans (congrArg (frame i s) (funext hrun))
  have hquiet (hexec : exec i s = frame i s fun _ =>
      .next ((s.writeUnit (s.effect i).unit).writeResult (s.effect i).result)) (hregion : s.hasRegion i = true)
      (hflags : (s.effect i).flags = 0) : exec i s = frame i s (s.runEffect i) :=
    hbody hexec (State.runEffect_of_flags_zero hregion hflags)
  cases i
  case nop | prepare | reset => cases h
  case fadd | fsub | fmul | fmac | sclip | envdb | bqproc | dlcfg | dlwr | dlrdl | dlrdc | envwin | envproc | lfofrq |
      lfoofs | lfoseed | cvload | cvproc => rfl
  case cvcfg =>
    refine hbody (exec_cvcfg ..) fun w => ?_
    simp only [State.runEffect, State.hasRegion, State.effect, if_true, State.after, State.writeUnit, State.writeResult]
  case' bqdes => refine hbody (exec_bqdes ..) fun w => ?_
  case' envatk => refine hbody (exec_envatk ..) fun w => ?_
  case' envrel => refine hbody (exec_envrel ..) fun w => ?_
  case' cvpush => refine hbody (exec_cvpush ..) fun w => ?_
  case bqdes | envatk | envrel | cvpush =>
    simp only [State.runEffect, State.hasRegion, State.effect, if_true]
    split
    · refine congrArg Host.Outcome.next (Eq.symm ?_)
      exact s.after_of_flags_zero rfl w
    · rfl
  case dlclr =>
    refine hbody (exec_dlclr ..) fun w => ?_
    rw [State.runEffect, s.after_of_flags_zero rfl]
    rfl
  all_goals exact hquiet rfl rfl rfl

theorem exec_of_prepared {i : Instr} {s : State} (halways : i.always = false) (hwf : i.wf s.params = true)
    (hprepared : s.prepared = true) (hregion : s.hasRegion i = true) :
    exec i s = .next (s.after (s.effect i) (encode i)) := by
  rw [exec_eq_frame halways, frame_prepared hwf hprepared, State.runEffect, if_pos hregion]

theorem exec_of_not_prepared {i : Instr} {s : State} (halways : i.always = false) (hwf : i.wf s.params = true)
    (hprepared : s.prepared = false) : exec i s = .next (s.raise flagSEQ (encode i)) := by
  rw [exec_eq_frame halways, frame_unprepared hwf hprepared]

theorem exec_of_not_wf {i : Instr} {s : State} (halways : i.always = false) (hwf : i.wf s.params = false) :
    exec i s = .next (s.raise flagILL (encode i)) := by
  rw [exec_eq_frame halways]
  simp [frame, frameAlways, hwf]

end Sys2Proof.Machine

namespace Sys2Proof.Machine

/-- What PREPARE leaves: `State.preparedAt` of the clamped rate and block size, with the flags of the two clamps and of
RecomputeAll (R201). -/
def State.afterPrepare (s : State) (ra rb : Reg) : State :=
  let fs := clampP (s.reg ra) rowFS
  let mb := clampBlock (s.u32 rb)
  let blk := BitVec.ofNat 32 mb.1
  (s.preparedAt fs.1 blk).flag (encode (.prepare ra rb)) (fs.2 ||| mb.2 ||| (s.setRate fs.1 blk).recomputeAll.2)

/-- Everything an executed command can do (R172, R200 to R203, R482). -/
inductive Executes (s : State) : Instr → State → Prop
  | refused {i : Instr} {f : FlagSet} (hflag : f = flagILL ∨ f = flagSEQ)
      (hrefused : ¬(i.wf s.params = true ∧ (i.always = true ∨ s.prepared = true))) :
      Executes s i (s.raise f (encode i))
  | nop : Executes s .nop s
  | prepare (ra rb : Reg) : Executes s (.prepare ra rb) (s.afterPrepare ra rb)
  | reset : Executes s .reset s.resetDynamic
  | effect {i : Instr} (halways : i.always = false) (hwf : i.wf s.params = true) (hprepared : s.prepared = true)
      (hregion : s.hasRegion i = true) : Executes s i (s.after (s.effect i) (encode i))

theorem executes_of_exec {i : Instr} {s t : State} (h : exec i s = .next t) : Executes s i t := by
  cases halways : i.always
  case false =>
    rw [exec_eq_frame halways] at h
    obtain ⟨hwf, hill⟩ | ⟨-, hprepared, hseq⟩ | ⟨hwf, hprepared, hrun⟩ := frame_cases h
    · cases hill
      exact .refused (.inl rfl) (by simp [hwf])
    · cases hseq
      exact .refused (.inr rfl) (by simp [halways, hprepared])
    · rw [State.runEffect] at hrun
      split at hrun
      case isTrue hregion =>
        cases hrun
        exact .effect halways hwf hprepared hregion
      case isFalse => cases hrun
  case true =>
    cases i
    case nop =>
      rw [exec_nop] at h
      cases h
      exact .nop
    case prepare ra rb =>
      rw [exec_prepare] at h
      cases h
      exact .prepare ra rb
    case reset =>
      rw [exec_reset] at h
      cases h
      exact .reset
    all_goals cases halways

/-! ### The frame of an effect: which bank, which unit and which register it reaches -/

def UnitWrite.banks : UnitWrite → List Bank
  | .none => []
  | .bq _ _ => [.bq]
  | .dl _ _ _ => [.dl, .dmem]
  | .env _ _ => [.env]
  | .lfo _ _ => [.lfo]
  | .cv _ _ => [.cv]
  | .pg _ _ => [.pg]

def UnitWrite.index : UnitWrite → Option UnitIx
  | .none => Option.none
  | .bq u _ | .dl u _ _ | .env u _ | .lfo u _ | .cv u _ | .pg u _ => some u

theorem keepsExcept_writeUnit (s : State) (w : UnitWrite) : KeepsExcept w.banks s (s.writeUnit w) := by
  cases w with
  | none => exact keepsExcept_nil s
  | bq u x => exact keepsExcept_setBq s u x
  | dl u x m =>
    have h := keepsExcept_setDl_setDmem_flag s u x m 0 0
    rwa [State.flag_zero] at h
  | env u x => exact keepsExcept_setEnv s u x
  | lfo u x => exact keepsExcept_setLfo s u x
  | cv u x => exact keepsExcept_setCv s u x
  | pg u x => exact keepsExcept_setPg s u x

theorem keepsExcept_after (s : State) (e : Effect) (w : Word) : KeepsExcept e.unit.banks s (s.after e w) := by
  have hunit := keepsExcept_writeUnit s e.unit
  rw [State.after]
  cases e.result with
  | none => exact hunit.flag w e.flags
  | some r => exact hunit.setReg_flag r.1 r.2 w e.flags

/-- In every bank no unit but u differs between two states. -/
structure OnlyUnit (u : UnitIx) (s t : State) : Prop where
  bq : OnlyBq u s t
  dl : OnlyDl u s t
  env : OnlyEnv u s t
  lfo : OnlyLfo u s t
  cv : OnlyCv u s t
  pg : OnlyPg u s t

theorem onlyUnit_refl (u : UnitIx) (s : State) : OnlyUnit u s s :=
  ⟨fun _ _ => rfl, fun _ _ => rfl, fun _ _ => rfl, fun _ _ => rfl, fun _ _ => rfl, fun _ _ => rfl⟩

theorem onlyUnit_writeUnit {u : UnitIx} (s : State) {w : UnitWrite} (h : ∀ v, w.index = some v → v = u) :
    OnlyUnit u s (s.writeUnit w) := by
  have hsame := onlyUnit_refl u s
  cases w with
  | none => exact hsame
  | bq v x => exact { hsame with bq := h v rfl ▸ onlyBq_setBq s v x }
  | dl v x m => exact { hsame with dl := h v rfl ▸ onlyDl_setDl s v x }
  | env v x => exact { hsame with env := h v rfl ▸ onlyEnv_setEnv s v x }
  | lfo v x => exact { hsame with lfo := h v rfl ▸ onlyLfo_setLfo s v x }
  | cv v x => exact { hsame with cv := h v rfl ▸ onlyCv_setCv s v x }
  | pg v x => exact { hsame with pg := h v rfl ▸ onlyPg_setPg s v x }

theorem onlyUnit_after {u : UnitIx} (s : State) {e : Effect} (w : Word) (h : ∀ v, e.unit.index = some v → v = u) :
    OnlyUnit u s (s.after e w) := by
  obtain ⟨hbq, hdl, henv, hlfo, hcv, hpg⟩ := onlyUnit_writeUnit s h
  rw [State.after]
  cases e.result <;> exact ⟨hbq, hdl, henv, hlfo, hcv, hpg⟩

theorem reg_writeUnit (s : State) (w : UnitWrite) (r : Reg) : (s.writeUnit w).reg r = s.reg r := by
  cases w <;> rfl

theorem reg_after_of_ne (s : State) {e : Effect} (w : Word) {r : Reg} (h : ∀ rd v, e.result = some (rd, v) → rd ≠ r) :
    (s.after e w).reg r = s.reg r := by
  rw [State.after, State.reg_flag]
  cases hresult : e.result with
  | none => exact reg_writeUnit s _ r
  | some x =>
    rw [State.writeResult, State.reg_setReg, if_neg (h x.1 x.2 hresult).symm]
    exact reg_writeUnit s _ r

/-- An effect stays within what R126, R127 and R166 give the command: its banks, the unit U names, and RD. -/
structure Effect.Owned (e : Effect) (p : Params) (i : Instr) : Prop where
  banks : ∀ k ∈ e.unit.banks, k ∈ i.banks
  index : ∀ u, e.unit.index = some u → ∃ n, i.unit p = some (u, n)
  dest : ∀ rd v, e.result = some (rd, v) → i.dest = some rd

theorem effect_owned (i : Instr) (s : State) : (s.effect i).Owned s.params i := by
  cases i
  case bqdes | envatk | envrel | cvpush =>
    rw [State.effect]
    split <;> exact ⟨by simp [UnitWrite.banks, Instr.banks], by rintro _ ⟨⟩ <;> exact ⟨_, rfl⟩, by rintro _ _ ⟨⟩ <;> rfl⟩
  all_goals
    exact ⟨by simp [State.effect, sampleEffect, UnitWrite.banks, Instr.banks], by rintro _ ⟨⟩ <;> exact ⟨_, rfl⟩,
      by rintro _ _ ⟨⟩ <;> rfl⟩

end Sys2Proof.Machine

namespace Sys2Proof.Machine

/-! ### What no command changes (R53, R54, R57, R60 to R62, R126, R127) -/

theorem KeepsExcept.mono {banks banks' : List Bank} {s t : State} (h : KeepsExcept banks s t)
    (hsub : ∀ k ∈ banks, k ∈ banks') : KeepsExcept banks' s t :=
  ⟨h.1, fun k hk => h.2 k (mt (hsub k) hk)⟩

theorem keepsExcept_raise (s : State) (f : FlagSet) (w : Word) : KeepsExcept [] s (s.raise f w) :=
  ⟨⟨rfl, rfl, rfl, rfl, rfl, rfl, rfl, rfl⟩, fun k _ => by cases k <;> rfl⟩

section
variable {i : Instr} {s t : State}

theorem Executes.keepsExcept (h : Executes s i t) (hprepare : ∀ ra rb, i ≠ .prepare ra rb) :
    KeepsExcept i.banks s t := by
  cases h with
  | refused => exact (keepsExcept_raise ..).mono (by simp)
  | nop => exact keepsExcept_nil s
  | prepare ra rb => exact absurd rfl (hprepare ra rb)
  | reset => exact ⟨sameGlobal_resetDynamic s, fun k hk => by cases k <;> simp [Instr.banks] at hk⟩
  | effect => exact (keepsExcept_after ..).mono (effect_owned i s).banks

/-- PREPARE writes SR, MAXBLK and PREPARED besides every bank; the other commands write nothing outside theirs. -/
theorem Executes.keepsHostSide (h : Executes s i t) :
    t.params = s.params ∧ t.irqen = s.irqen ∧ t.pending = s.pending ∧ t.ci = s.ci ∧ t.seen = s.seen := by
  by_cases hprepare : ∃ ra rb, i = .prepare ra rb
  case pos =>
    obtain ⟨ra, rb, rfl⟩ := hprepare
    cases h with
    | refused hflag hrefused => exact absurd ⟨rfl, .inl rfl⟩ hrefused
    | prepare => exact ⟨s.preparedAt_params _ _, rfl, rfl, rfl, rfl⟩
    | effect halways => cases halways
  case neg =>
    obtain ⟨hglobal, -⟩ := h.keepsExcept fun ra rb hi => hprepare ⟨ra, rb, hi⟩
    exact ⟨hglobal.params, hglobal.irqen, hglobal.pending, hglobal.ci, hglobal.seen⟩

theorem Executes.reg_eq (h : Executes s i t) {r : Reg} (hr : i.dest ≠ some r) : t.reg r = s.reg r := by
  cases h with
  | refused | nop | prepare | reset => rfl
  | effect => exact reg_after_of_ne s _ fun rd v hresult hrd => hr (hrd ▸ (effect_owned i s).dest rd v hresult)

theorem Executes.onlyUnit (h : Executes s i t) {u : UnitIx} {n : Nat} (hunit : i.unit s.params = some (u, n)) :
    OnlyUnit u s t := by
  cases h with
  | refused => exact ⟨fun _ _ => rfl, fun _ _ => rfl, fun _ _ => rfl, fun _ _ => rfl, fun _ _ => rfl, fun _ _ => rfl⟩
  | nop | prepare | reset => cases hunit
  | effect =>
    refine onlyUnit_after s _ fun v hindex => ?_
    obtain ⟨m, hv⟩ := (effect_owned i s).index v hindex
    rw [hunit] at hv
    cases hv
    rfl

end

/-- Settles O19: an effect stays within its command's banks, unit and register, and NOP, PREPARE, RESET and a refusal
write no more than their lists. -/
theorem commandsWriteOnlyWhatTheyOwn : Obligations.CommandsWriteOnlyWhatTheyOwn := by
  intro i s t hexec
  have h := executes_of_exec hexec
  refine ⟨h.keepsHostSide, fun hprepare => ?_, fun r => h.reg_eq, fun k hk => ?_, fun u n hunit => ?_⟩
  · obtain ⟨hglobal, -⟩ := h.keepsExcept hprepare
    exact ⟨hglobal.sr, hglobal.maxblk, hglobal.prepared⟩
  · refine (h.keepsExcept fun ra rb hi => ?_).2 k hk
    rw [hi] at hk
    cases k <;> simp [Instr.banks] at hk
  · have honly := h.onlyUnit hunit
    exact ⟨honly.bq, honly.dl, honly.env, honly.lfo, honly.cv, honly.pg⟩

/-! ### What becomes of one unit (R257, R387) -/

theorem State.bqAt_after_cases (s : State) (e : Effect) (w : Word) (v : UnitIx) :
    (s.after e w).bqAt v = s.bqAt v ∨ e.unit = .bq v ((s.after e w).bqAt v) := by
  have hafter : (s.after e w).bqAt v = (s.writeUnit e.unit).bqAt v := by rw [State.after]; cases e.result <;> rfl
  rw [hafter]
  cases e.unit with
  | bq u x =>
    by_cases hv : v = u
    case neg => exact .inl (s.bqAt_setBq_ne u v x hv)
    case pos =>
      subst hv
      rcases Nat.lt_or_ge v.val s.bq.length with hlt | hge
      · exact .inr (by rw [State.writeUnit, State.bqAt_setBq_self hlt])
      · exact .inl (by simp only [State.writeUnit, State.setBq, List.set_eq_of_length_le hge])
  | _ => exact .inl rfl

theorem State.lfoAt_after_cases (s : State) (e : Effect) (w : Word) (v : UnitIx) :
    (s.after e w).lfoAt v = s.lfoAt v ∨ e.unit = .lfo v ((s.after e w).lfoAt v) := by
  have hafter : (s.after e w).lfoAt v = (s.writeUnit e.unit).lfoAt v := by rw [State.after]; cases e.result <;> rfl
  rw [hafter]
  cases e.unit with
  | lfo u x =>
    by_cases hv : v = u
    case neg => exact .inl (s.lfoAt_setLfo_ne u v x hv)
    case pos =>
      subst hv
      rcases Nat.lt_or_ge v.val s.lfo.length with hlt | hge
      · exact .inr (by rw [State.writeUnit, State.lfoAt_setLfo_self hlt])
      · exact .inl (by simp only [State.writeUnit, State.setLfo, List.set_eq_of_length_le hge])
  | _ => exact .inl rfl

/-- `b'` is `b` but for the channel state. -/
def BqUnit.SameDesign (b b' : BqUnit) : Prop := b = { b' with z1 := b.z1, z2 := b.z2 }

theorem sameDesign_biquadStep (b : BqUnit) (c : ChanIx) (x : Word) : b.SameDesign (biquadStep b c x).2.1 := by
  by_cases h : b.StepsFinite c x
  · rw [biquadStep_of_stepsFinite h]; rfl
  · rw [biquadStep_of_not_stepsFinite h]; rfl

theorem sameDesign_resetDynamic (s : State) (v : UnitIx) : (s.bqAt v).SameDesign (s.resetDynamic.bqAt v) := by
  rcases Nat.lt_or_ge v.val s.bq.length with hlt | hge
  · rw [s.bqAt_resetDynamic v hlt]; rfl
  · have hafter : s.resetDynamic.bqAt v = BqUnit.reset := List.getD_eq_default _ _ (by simpa using hge)
    have hbefore : s.bqAt v = BqUnit.reset := List.getD_eq_default _ _ hge
    rw [hafter, hbefore]; rfl

theorem sameDesign_effect {i : Instr} {s : State} {v : UnitIx} {x : BqUnit}
    (hdesign : ∀ rd ra rb rc ty, i ≠ .bqdes rd ra rb rc ty v) (h : (s.effect i).unit = .bq v x) :
    (s.bqAt v).SameDesign x := by
  cases i
  case bqdes rd ra rb rc ty u =>
    rw [State.effect] at h
    split at h
    · cases h
    · cases h
      exact absurd rfl (hdesign rd ra rb rc ty)
  case bqproc =>
    cases h
    exact sameDesign_biquadStep ..
  case bqclr =>
    cases h
    rfl
  case envatk | envrel | cvpush =>
    rw [State.effect] at h
    split at h <;> cases h
  all_goals cases h

/-- Settles O34: a biquad unit is written by BQPROC and BQCLR, which keep its design, and by BQDES on it; RESET clears
channel states. -/
theorem coefficientsChangeOnlyByDesign : Obligations.CoefficientsChangeOnlyByDesign := by
  intro i s t v hexec hprepare hdesign
  change (s.bqAt v).SameDesign (t.bqAt v)
  cases executes_of_exec hexec with
  | refused | nop => rfl
  | prepare ra rb => exact absurd rfl (hprepare ra rb)
  | reset => exact sameDesign_resetDynamic s v
  | effect =>
    rcases s.bqAt_after_cases (s.effect i) (encode i) v with hkeep | hwrite
    · rw [hkeep]; rfl
    · exact sameDesign_effect hdesign hwrite

/-! ### The phase of an LFO unit (R374, R387) -/

theorem phase_effect {i : Instr} {s : State} {v : UnitIx} {x : LfoUnit} (htick : ∀ rd, i ≠ .lfotick rd v)
    (hrestart : i ≠ .lforst v) (h : (s.effect i).unit = .lfo v x) : x.phase = (s.lfoAt v).phase := by
  cases i
  case lfotick rd u =>
    cases h
    exact absurd rfl (htick rd)
  case lforst u =>
    cases h
    exact absurd rfl hrestart
  case lfofrq | lfowav | lfoofs | lfoseed =>
    cases h
    rfl
  case bqdes | envatk | envrel | cvpush =>
    rw [State.effect] at h
    split at h <;> cases h
  all_goals cases h

theorem LfoUnit.tick_phase (l : LfoUnit) : l.tick.phase = l.phase + l.inc := by
  unfold LfoUnit.tick; split <;> rfl

theorem LfoUnit.tick_inc (l : LfoUnit) : l.tick.inc = l.inc := by
  unfold LfoUnit.tick; split <;> rfl

theorem exec_lfotick_next (rd : Reg) {u : UnitIx} {s : State} (hu : u.val < s.lfo.length)
    (hprepared : s.prepared = true) :
    exec (.lfotick rd u) s = .next ((s.setLfo u (s.lfoAt u).tick).setReg rd (s.lfoAt u).tick.value) := by
  rw [exec_lfotick, frame_prepared (Instr.wf_of_unit rfl hu rfl) hprepared]

theorem phase_runOps_ticks (rd : Reg) (u : UnitIx) (n : Nat) (s : State) (hu : u.val < s.lfo.length)
    (hprepared : s.prepared = true) :
    ∃ t, runOps (List.replicate n (.command (.lfotick rd u))) s = .next t ∧
      (t.lfoAt u).phase.toNat = ((s.lfoAt u).phase.toNat + n * (s.lfoAt u).inc.toNat) % 2 ^ 32 := by
  induction n generalizing s with
  | zero => exact ⟨s, rfl, by rw [Nat.zero_mul, Nat.add_zero, Nat.mod_eq_of_lt (s.lfoAt u).phase.isLt]⟩
  | succ n ih =>
    have hunit : ((s.setLfo u (s.lfoAt u).tick).setReg rd (s.lfoAt u).tick.value).lfoAt u = (s.lfoAt u).tick :=
      State.lfoAt_setLfo_self hu _
    obtain ⟨t, hrun, hphase⟩ := ih ((s.setLfo u (s.lfoAt u).tick).setReg rd (s.lfoAt u).tick.value) (by simpa using hu)
      hprepared
    refine ⟨t, ?_, ?_⟩
    · rw [List.replicate_succ, runOps, exec_lfotick_next rd hu hprepared]
      exact hrun
    · rw [hphase, hunit, LfoUnit.tick_phase, LfoUnit.tick_inc, BitVec.toNat_add, Nat.mod_add_mod, Nat.add_assoc,
        Nat.succ_mul, Nat.add_comm (n * _)]

/-- Settles O50: LFOTICK and LFORST on the unit are the only effects that move a phase, and each tick adds INC. -/
theorem phaseAdvancesExactly : Obligations.PhaseAdvancesExactly := by
  refine ⟨fun i s t v hexec hglobal htick hrestart => ?_, phase_runOps_ticks⟩
  cases executes_of_exec hexec with
  | refused | nop => rfl
  | prepare | reset => cases hglobal
  | effect =>
    rcases s.lfoAt_after_cases (s.effect i) (encode i) v with hkeep | hwrite
    · rw [hkeep]
    · exact phase_effect htick hrestart hwrite

end Sys2Proof.Machine

namespace Sys2Proof.Machine

/-! ### The flags a command may set (R480, R483) -/

/-- Every flag of f is one of m. -/
structure FlagsWithin (f m : FlagSet) : Prop where
  bit (k : Nat) : f.getLsbD k = true → m.getLsbD k = true

section
variable {f g m : FlagSet}

theorem flagsWithin_zero (m : FlagSet) : FlagsWithin 0 m := ⟨fun k hk => by simp at hk⟩

theorem flagsWithin_refl (m : FlagSet) : FlagsWithin m m := ⟨fun _ hk => hk⟩

theorem flagsWithin_or (hf : FlagsWithin f m) (hg : FlagsWithin g m) : FlagsWithin (f ||| g) m := ⟨fun k hk => by
  rw [BitVec.getLsbD_or, Bool.or_eq_true] at hk
  exact hk.elim (hf.bit k) (hg.bit k)⟩

theorem FlagsWithin.or_left (h : FlagsWithin f m) (g : FlagSet) : FlagsWithin f (m ||| g) := ⟨fun k hk => by
  rw [BitVec.getLsbD_or, h.bit k hk, Bool.true_or]⟩

theorem FlagsWithin.or_right (h : FlagsWithin f m) (g : FlagSet) : FlagsWithin f (g ||| m) := ⟨fun k hk => by
  rw [BitVec.getLsbD_or, h.bit k hk, Bool.or_true]⟩

theorem FlagsWithin.trans {n : FlagSet} (hf : FlagsWithin f m) (hm : FlagsWithin m n) : FlagsWithin f n :=
  ⟨fun k hk => hm.bit k (hf.bit k hk)⟩

theorem FlagsWithin.and_not_eq_zero (h : FlagsWithin f m) : f &&& ~~~m = 0 := by
  refine BitVec.eq_of_getLsbD_eq fun k hk => ?_
  rw [BitVec.getLsbD_and, BitVec.getLsbD_not]
  cases hf : f.getLsbD k
  · simp
  · simp [h.bit k hf]

theorem FlagsWithin.and_eq_zero {n : FlagSet} (h : FlagsWithin f m) (hdisjoint : m &&& n = 0) : f &&& n = 0 := by
  refine BitVec.eq_of_getLsbD_eq fun k _ => ?_
  have hk := congrArg (BitVec.getLsbD · k) hdisjoint
  cases hf : f.getLsbD k
  · simp [hf]
  · simpa [hf, h.bit k hf] using hk

theorem flagsWithin_flagIf (c : Bool) (m : FlagSet) : FlagsWithin (flagIf c m) m := by
  cases c
  · exact flagsWithin_zero m
  · exact flagsWithin_refl m

end

theorem flagsWithin_sanitize (v : Word) : FlagsWithin (sanitize v).2 flagNUM := by
  rw [sanitize_flags]
  split
  · exact flagsWithin_zero _
  · exact flagsWithin_refl _

theorem State.flagsWithin_sample (s : State) (r : Reg) : FlagsWithin (s.sample r).2 flagNUM := flagsWithin_sanitize _

theorem flagsWithin_sampleEffect {rd : Reg} {v : Word} {f m : FlagSet} (hf : FlagsWithin f m)
    (hnum : FlagsWithin flagNUM m) : FlagsWithin (sampleEffect rd v f).flags m :=
  flagsWithin_or hf ((flagsWithin_sanitize v).trans hnum)

theorem flagsWithin_clampP (v : Word) (p : ClampRow) : FlagsWithin (clampP v p).2 flagCLAMP := flagsWithin_flagIf ..

theorem flagsWithin_design (sr : Word) (b : BqUnit) : FlagsWithin (design sr b).2 (flagCLAMP ||| flagNUM) := by
  have hcheck (r : RawCoefs) : FlagsWithin (checkedCoefs r).2 flagNUM := by
    rw [checkedCoefs]
    split
    · exact flagsWithin_refl _
    · exact flagsWithin_zero _
  exact flagsWithin_or (FlagsWithin.or_left (flagsWithin_or (flagsWithin_or (flagsWithin_clampP ..)
    (flagsWithin_clampP ..)) (flagsWithin_clampP ..)) _) ((hcheck _).or_right _)

theorem flagsWithin_biquadStep (b : BqUnit) (c : ChanIx) (x : Word) : FlagsWithin (biquadStep b c x).2.2 flagNUM := by
  by_cases h : b.StepsFinite c x
  · rw [biquadStep_of_stepsFinite h]
    exact flagsWithin_zero _
  · rw [biquadStep_of_not_stepsFinite h]
    exact flagsWithin_refl _

theorem flagsWithin_delayClamp (v : Word) (d : DlUnit) :
    FlagsWithin (delayClamp v d).2 (flagCLAMP ||| flagRSRC) := by
  rw [delayClamp]
  split_ifs
  · exact (flagsWithin_refl _).or_left _
  · exact (flagsWithin_refl _).or_left _
  · exact (flagsWithin_refl _).or_right _
  · exact flagsWithin_zero _

theorem flagsWithin_winSamples (limit : Nat) (sr raw : Word) :
    FlagsWithin (winSamples limit sr raw).2 (flagCLAMP ||| flagRSRC) :=
  flagsWithin_or ((flagsWithin_clampP ..).or_left _) ((flagsWithin_flagIf ..).or_right _)

theorem flagsWithin_pushSquare (e : EnvUnit) (x : Word) : FlagsWithin (e.pushSquare x).2 flagNUM := by
  rw [EnvUnit.pushSquare]
  split
  · exact flagsWithin_sanitize _
  · exact flagsWithin_or (flagsWithin_sanitize _) (flagsWithin_refl _)

theorem flagsWithin_detect (e : EnvUnit) (x : Word) : FlagsWithin (detect e x).2.2 flagNUM := by
  cases hdet : e.det with
  | peak =>
    rw [detect_of_peak hdet]
    exact flagsWithin_zero _
  | rms =>
    rw [detect_of_rms hdet]
    exact flagsWithin_pushSquare e x

theorem CvUnit.flagsWithin_push (p : Limits) (c : CvUnit) (v : Word) : FlagsWithin (c.push p v).2 flagNUM := by
  by_cases h : c.n + 1 = c.blk
  · rw [CvUnit.push_of_eq h]
    exact flagsWithin_flagIf ..
  · rw [CvUnit.push_of_ne h]
    exact flagsWithin_zero _

theorem effect_flags (i : Instr) (s : State) : FlagsWithin (s.effect i).flags i.mayFlag := by
  cases i
  case fadd rd ra rb | fsub rd ra rb | fmul rd ra rb =>
    exact flagsWithin_sampleEffect (flagsWithin_or (s.flagsWithin_sample ra) (s.flagsWithin_sample rb))
      (flagsWithin_refl _)
  case fmac rd ra rb rc =>
    exact flagsWithin_sampleEffect (flagsWithin_or (flagsWithin_or (s.flagsWithin_sample ra) (s.flagsWithin_sample rb))
      (s.flagsWithin_sample rc)) (flagsWithin_refl _)
  case sclip rd ra | envdb rd ra => exact flagsWithin_sampleEffect (s.flagsWithin_sample ra) (flagsWithin_refl _)
  case bqdes =>
    rw [State.effect]
    split
    · exact flagsWithin_zero _
    · exact flagsWithin_design ..
  case bqproc rd ra c u => exact flagsWithin_or (s.flagsWithin_sample ra) (flagsWithin_biquadStep ..)
  case dlcfg => exact flagsWithin_flagIf ..
  case dlwr ra u => exact s.flagsWithin_sample ra
  case dlrdl rd ra u | dlrdc rd ra u =>
    exact flagsWithin_sampleEffect ((flagsWithin_delayClamp ..).or_left _) ((flagsWithin_refl _).or_right _)
  case envatk | envrel =>
    rw [State.effect]
    split
    · exact flagsWithin_zero _
    · exact flagsWithin_clampP ..
  case envwin => exact flagsWithin_winSamples ..
  case envproc rd ra u =>
    exact flagsWithin_or (flagsWithin_or (s.flagsWithin_sample ra) (flagsWithin_detect ..)) (flagsWithin_sanitize _)
  case lfofrq => exact flagsWithin_clampP ..
  case lfoofs | lfoseed | cvload => exact flagsWithin_flagIf ..
  case cvcfg =>
    simp only [State.effect]
    exact flagsWithin_flagIf ..
  case cvpush =>
    rw [State.effect]
    split
    · exact flagsWithin_zero _
    · exact flagsWithin_refl _
  case cvproc rd ra u => exact flagsWithin_or (s.flagsWithin_sample ra) (CvUnit.flagsWithin_push ..)
  all_goals exact flagsWithin_zero _

theorem State.flagsWithin_recomputeAll (s : State) :
    FlagsWithin s.recomputeAll.2 (flagCLAMP ||| flagRSRC ||| flagNUM) := ⟨fun k hk => by
  have hclamp : FlagsWithin flagCLAMP (flagCLAMP ||| flagRSRC ||| flagNUM) := ((flagsWithin_refl _).or_left _).or_left _
  have hdesign : FlagsWithin (flagCLAMP ||| flagNUM) (flagCLAMP ||| flagRSRC ||| flagNUM) :=
    flagsWithin_or hclamp ((flagsWithin_refl _).or_right _)
  obtain ⟨b, -, -, hb⟩ | ⟨e, -, he⟩ | ⟨l, -, hl⟩ := s.recomputeAll_getLsbD k |>.mp hk
  · exact ((flagsWithin_design s.sr b).trans hdesign).bit k hb
  · exact (flagsWithin_or (flagsWithin_or ((flagsWithin_clampP ..).trans hclamp) ((flagsWithin_clampP ..).trans hclamp))
      ((flagsWithin_winSamples ..).or_left _)).bit k he
  · exact ((flagsWithin_clampP ..).trans hclamp).bit k hl⟩

/-- An executed command flags flags of its own list, and nothing else moves the status or ERRCMD. -/
theorem Executes.flagged {i : Instr} {s t : State} (h : Executes s i t)
    (hexecuted : i.wf s.params = true ∧ (i.always = true ∨ s.prepared = true)) :
    ∃ f, FlagsWithin f i.mayFlag ∧ Flagged (encode i) f s t := by
  cases h with
  | refused hflag hrefused => exact absurd hexecuted hrefused
  | nop | reset => exact ⟨0, flagsWithin_zero _, BitVec.or_zero.symm, rfl⟩
  | prepare ra rb =>
    have hclamp : FlagsWithin flagCLAMP (flagCLAMP ||| flagRSRC ||| flagNUM) :=
      ((flagsWithin_refl _).or_left _).or_left _
    refine ⟨_, flagsWithin_or (flagsWithin_or ((flagsWithin_clampP (s.reg ra) rowFS).trans hclamp)
      ((flagsWithin_flagIf ..).trans hclamp)) (State.flagsWithin_recomputeAll _), rfl, rfl⟩
  | effect =>
    refine ⟨(s.effect i).flags, effect_flags i s, ?_⟩
    rw [State.after]
    cases (s.effect i).result <;> cases (s.effect i).unit <;> exact ⟨rfl, rfl⟩

theorem mayFlag_and_errors (i : Instr) : i.mayFlag &&& (flagILL ||| flagSEQ ||| flagBUS) = 0 := by
  cases i <;> simp only [Instr.mayFlag] <;> decide

/-- Settles O18: what an executed command flags is within its rule's list, which never holds ILL, SEQ or BUS. -/
theorem commandsSetOnlyTheirOwnFlags : Obligations.CommandsSetOnlyTheirOwnFlags := by
  intro i s t hwf hready hexec
  obtain ⟨f, hf, hflagged⟩ := (executes_of_exec hexec).flagged ⟨hwf, hready⟩
  refine ⟨⟨f, hf.and_not_eq_zero, hflagged⟩, fun hs => ?_⟩
  have hzero : f &&& (flagILL ||| flagSEQ ||| flagBUS) = 0 := hf.and_eq_zero (mayFlag_and_errors i)
  rw [State.NoError] at hs ⊢
  rw [hflagged.1, BitVec.and_comm, BitVec.and_or_distrib_left, BitVec.and_comm, hs, BitVec.and_comm, hzero]
  rfl

end Sys2Proof.Machine

namespace Sys2Proof.Machine

/-! ### Everything a bus access can do, said once (R16, R55 to R59, R63, R121, R122) -/

theorem windowReg_eq_ctrl {offset : Fin 256} (h : windowReg offset = .ctrl) : offset = 0x20 := by
  unfold windowReg at h
  split at h
  case h_8 hoffset => exact Fin.ext hoffset
  case h_16 => split at h <;> cases h
  all_goals cases h

theorem windowReg_eq_status {offset : Fin 256} (h : windowReg offset = .status) : offset = 0x24 := by
  unfold windowReg at h
  split at h
  case h_9 hoffset => exact Fin.ext hoffset
  case h_16 => split at h <;> cases h
  all_goals cases h

/-- Everything the effect of an access can be. -/
inductive Accessed (s : State) : BusAccess → State → Prop
  | same (a : BusAccess) : Accessed s a s
  | bus (a : BusAccess) : Accessed s a s.flagBus
  | hardwareReset (v : Word) (hreset : v.getLsbD 0 = true) : Accessed s (.write .word 0x20 v) s.hardwareReset
  | clearStatus (v : Word) : Accessed s (.write .word 0x24 v) { s with status := s.status &&& ~~~(v.setWidth 7) }
  | irqen (a : BusAccess) (v : FlagSet) : Accessed s a { s with irqen := v }
  | setReg (a : BusAccess) (r : Reg) (v : Word) : Accessed s a (s.setReg r v)
  | illegal (a : BusAccess) (w : Word) : Accessed s a { s.raise flagILL w with ci := s.ci + 1 }
  | command (a : BusAccess) {i : Instr} {t : State} (hexec : Executes s i t) : Accessed s a { t with ci := t.ci + 1 }

theorem accessed_of_writeCmd {s t : State} {w : Word} (a : BusAccess) (h : writeCmd w s = .next t) :
    Accessed s a t := by
  obtain ⟨u, hrun, rfl⟩ := mapNext_next_iff.mp h
  rw [runCommand] at hrun
  split at hrun
  · exact .command a (executes_of_exec hrun)
  · cases hrun
    exact .illegal a w

theorem accessed_of_next {s t : State} {a : BusAccess} (h : accessEffect s a = .next t) : Accessed s a t := by
  cases a with
  | read width offset =>
    cases h
    split
    · exact .same _
    · exact .bus _
  | write width offset v =>
    rw [accessEffect] at h
    split at h
    case isFalse =>
      cases h
      exact .bus _
    case isTrue hword =>
      obtain rfl : width = .word := by
        rw [wordAccess, Bool.and_eq_true, beq_iff_eq] at hword
        exact hword.1
      cases hreg : windowReg offset with
      | ctrl =>
        obtain rfl := windowReg_eq_ctrl hreg
        rw [hreg] at h
        cases h
        split
        case isTrue hreset => exact .hardwareReset v hreset
        case isFalse => exact .same _
      | status =>
        obtain rfl := windowReg_eq_status hreg
        rw [hreg] at h
        cases h
        exact .clearStatus v
      | irqen =>
        rw [hreg] at h
        cases h
        exact .irqen _ _
      | cmd =>
        rw [hreg] at h
        exact accessed_of_writeCmd _ h
      | data r =>
        rw [hreg] at h
        cases h
        exact .setReg _ r v
      | _ =>
        rw [hreg] at h
        cases h
        exact .same _

/-- A step with an access pending performs the oldest and lets the host observe it. -/
theorem accessed_of_step {s t : State} (h : step s = .next t) :
    (s.pending = [] ∧ t = s) ∨
    ∃ a rest u d, s.pending = a :: rest ∧ Accessed { s with pending := rest } a u ∧ t = u.observe d := by
  obtain ⟨hidle, hstep⟩ | ⟨a, rest, hpending, hstep⟩ := step_cases s
  · rw [hstep] at h
    cases h
    exact .inl ⟨hidle, rfl⟩
  · rw [hstep] at h
    obtain ⟨u, haccess, rfl⟩ := mapNext_next_iff.mp h
    exact .inr ⟨a, rest, u, _, hpending, accessed_of_next haccess, rfl⟩

/-! ### The interrupt line (R486) -/

theorem flagSet_eq_zero_iff (f : FlagSet) : f = 0 ↔ ∀ b, b < 7 → f.getLsbD b = false := by
  refine ⟨fun h b _ => by rw [h]; simp, fun h => BitVec.eq_of_getLsbD_eq fun b hb => ?_⟩
  rw [h b hb]
  simp

theorem State.irq_iff (s : State) :
    s.irq = true ↔ ∃ b, b < 7 ∧ s.status.getLsbD b = true ∧ s.irqen.getLsbD b = true := by
  rw [State.irq, bne_iff_ne, ne_eq, flagSet_eq_zero_iff]
  simp [BitVec.getLsbD_and]

theorem Accessed.seen {s t : State} {a : BusAccess} (h : Accessed s a t) : t.seen = s.seen := by
  cases h with
  | command a hexec =>
    obtain ⟨-, -, -, -, hseen⟩ := hexec.keepsHostSide
    exact hseen
  | _ => rfl

/-- Settles O16: no access itself touches what the host has seen, and a step then adds one observation with the level
of the state it leaves. -/
theorem interruptLineFollowsStatusAndEnables : Obligations.InterruptLineFollowsStatusAndEnables := by
  refine ⟨State.irq_iff, fun s t hpending hstep => ?_, rfl⟩
  obtain ⟨hidle, -⟩ | ⟨a, rest, u, d, -, haccess, rfl⟩ := accessed_of_step hstep
  · exact absurd hidle hpending
  · exact ⟨d, congrArg (_ :: ·) haccess.seen⟩

/-! ### The sticky STATUS bits (R56) -/

theorem Executes.status {i : Instr} {s t : State} (h : Executes s i t) : ∃ f, t.status = s.status ||| f := by
  cases h with
  | @refused _ f => exact ⟨f, rfl⟩
  | nop | reset => exact ⟨0, BitVec.or_zero.symm⟩
  | prepare => exact ⟨_, rfl⟩
  | effect =>
    refine ⟨(s.effect i).flags, ?_⟩
    rw [State.after]
    cases (s.effect i).result <;> cases (s.effect i).unit <;> rfl

theorem Accessed.status_bit {s t : State} {a : BusAccess} {b : Nat} (h : Accessed s a t) (hb : b < 7)
    (hs : s.status.getLsbD b = true) (ht : t.status.getLsbD b = false) :
    ∃ v, (a = .write .word 0x24 v ∧ v.getLsbD b = true) ∨ (a = .write .word 0x20 v ∧ v.getLsbD 0 = true) := by
  have hset (f : FlagSet) : (s.status ||| f).getLsbD b = true := by rw [BitVec.getLsbD_or, hs, Bool.true_or]
  cases h with
  | same | irqen | setReg => exact absurd hs (by simpa using ht)
  | bus | illegal => exact absurd (hset _) (by simpa using ht)
  | hardwareReset v hreset => exact ⟨v, .inr ⟨rfl, hreset⟩⟩
  | clearStatus v => exact ⟨v, .inl ⟨rfl, by simpa [hb, hs] using ht⟩⟩
  | command a hexec =>
    obtain ⟨f, hf⟩ := hexec.status
    exact absurd (hset f) (by simpa [← hf] using ht)

/-- Settles O17: of the accesses, only the two host writes clear a set bit; commands and BUS set bits alone. -/
theorem statusBitsAreClearedOnlyByTheHost : Obligations.StatusBitsAreClearedOnlyByTheHost := by
  intro s t b hb hstep hs ht
  obtain ⟨-, rfl⟩ | ⟨a, rest, u, d, hpending, haccess, rfl⟩ := accessed_of_step hstep
  · rw [hs] at ht
    cases ht
  · obtain ⟨v, ⟨rfl, hv⟩ | ⟨rfl, hv⟩⟩ := haccess.status_bit hb hs ht
    · exact ⟨v, rest, .inl ⟨hpending, hv⟩⟩
    · exact ⟨v, rest, .inr ⟨hpending, hv⟩⟩

/-! ### Refused words (R482) -/

/-- Settles O12: an illegal word raises ILL; a legal one decodes to a command of that encoding, which the frame refuses
with SEQ. -/
theorem refusedWordOnlyMarks : Obligations.RefusedWordOnlyMarks := by
  intro s w rest hpending
  refine ⟨fun e hdecode => ?_, fun i hdecode hprepared hnop hreset hprepare => ?_⟩
  · have hrun : runCommand w { s with pending := rest } = .next (({ s with pending := rest } : State).raise flagILL w) := by
      rw [runCommand, show decode ({ s with pending := rest } : State).params w = .error e from hdecode]
    rw [step_writeCmd hpending, writeCmd, hrun]
    rfl
  · obtain ⟨hwf, rfl⟩ := (decodeInvertsEncode s.params w i).mp hdecode
    have halways : i.always = false := by
      cases i
      case nop => exact absurd rfl hnop
      case reset => exact absurd rfl hreset
      case prepare ra rb => exact absurd rfl (hprepare ra rb)
      all_goals rfl
    rw [step_writeCmd hpending, writeCmd, runCommand_of_decode (s := { s with pending := rest }) hdecode,
      exec_of_not_prepared (s := { s with pending := rest }) halways hwf hprepared]
    rfl

/-! ### The state after hardware reset (R521) -/

theorem State.reg_resetOf (p : Params) (r : Reg) : (State.resetOf p).reg r = 0 := by
  simp [State.reg, State.resetOf]

theorem getD_replicate_self {α : Type} (n k : Nat) (x : α) : (List.replicate n x).getD k x = x := by
  rw [List.getD_eq_getElem?_getD, List.getElem?_getD_replicate_default_eq]

theorem State.bqAt_resetOf (p : Params) (u : UnitIx) : (State.resetOf p).bqAt u = BqUnit.reset :=
  getD_replicate_self ..

theorem State.envAt_resetOf (p : Params) (u : UnitIx) : (State.resetOf p).envAt u = EnvUnit.reset :=
  getD_replicate_self ..

theorem State.lfoAt_resetOf (p : Params) (u : UnitIx) : (State.resetOf p).lfoAt u = LfoUnit.reset :=
  getD_replicate_self ..

theorem State.cvAt_resetOf (p : Params) (u : UnitIx) : (State.resetOf p).cvAt u = CvUnit.reset :=
  getD_replicate_self ..

theorem State.pgAt_resetOf (p : Params) (u : UnitIx) : (State.resetOf p).pgAt u = PgSlot.reset :=
  getD_replicate_self ..

theorem State.dlAt_resetOf {p : Params} {u : UnitIx} (hu : u.val < p.ndl) :
    (State.resetOf p).dlAt u = DlUnit.reset p u := by
  simp [State.dlAt, State.resetOf, hu]

/-- Settles O15: every unit of the reset state is its bank's reset unit, whose elements are the listed values. -/
theorem hardwareResetLeavesTheResetValues : Obligations.HardwareResetLeavesTheResetValues := by
  refine ⟨rfl, fun p => ?_⟩
  dsimp only
  simp only [State.bqAt_resetOf, State.envAt_resetOf, State.lfoAt_resetOf, State.cvAt_resetOf, State.pgAt_resetOf,
    State.resetOf_params]
  have hz : ∀ z ∈ Vector.replicate 4 (0 : Word), z = 0 := fun z hmem => (Vector.mem_replicate.mp hmem).2
  have hirq : (State.resetOf p).irq = false := (by decide : ((0 : FlagSet) &&& 0 != 0) = false)
  refine ⟨⟨trivial, rfl, rfl, fun offset _ _ haligned => readReg_windowReg _ haligned⟩, rfl, rfl, rfl, rfl, rfl, rfl, hirq,
    State.reg_resetOf p, fun _ _ => ⟨rfl, rfl, rfl, rfl, rfl, rfl, rfl, rfl, rfl, rfl, rfl, hz, hz⟩, fun u hu => ?_,
    fun _ _ => ⟨rfl, rfl, rfl, rfl, rfl, rfl, rfl, rfl, rfl, rfl, rfl, rfl, rfl, rfl, rfl, fun _ => rfl⟩,
    fun _ _ => ⟨rfl, rfl, rfl, rfl, rfl, rfl, rfl, rfl⟩,
    fun _ _ => ⟨rfl, rfl, rfl, rfl, rfl, fun _ => rfl, fun _ => rfl, rfl⟩, fun _ _ => ⟨rfl, rfl, rfl⟩⟩
  rw [State.dlAt_resetOf hu]
  exact ⟨rfl, rfl, rfl⟩

end Sys2Proof.Machine

namespace Sys2Proof.Machine

/-! ### No step is stuck (R496) -/

theorem Instr.lt_of_wf {p : Params} {i : Instr} {u : UnitIx} {n : Nat} (hwf : i.wf p = true)
    (hunit : i.unit p = some (u, n)) : u.val < n := by
  have hok := (wf_iff.mp hwf).1
  rw [Instr.unitOk, hunit] at hok
  exact of_decide_eq_true hok

theorem State.Inv.dlAt {s : State} (h : s.Inv) {u : UnitIx} (hu : u.val < s.dl.length) :
    (s.dlAt u).Inv s.limits.dmemWords := h.dl _ (getD_mem _ _ _ hu)

theorem State.Inv.hasRegion {s : State} (h : s.Inv) {i : Instr} (hwf : i.wf s.params = true) :
    s.hasRegion i = true := by
  cases i
  case dlwr | dlrdl | dlrdc | dlclr => exact (h.dlAt (Instr.lt_of_wf hwf rfl)).regionOk
  all_goals rfl

theorem State.Inv.exists_exec {s : State} (h : s.Inv) (i : Instr) : ∃ t, exec i s = .next t := by
  cases halways : i.always
  case false =>
    cases hwf : i.wf s.params
    case false => exact ⟨_, exec_of_not_wf halways hwf⟩
    case true =>
      cases hprepared : s.prepared
      case false => exact ⟨_, exec_of_not_prepared halways hwf hprepared⟩
      case true => exact ⟨_, exec_of_prepared halways hwf hprepared (h.hasRegion hwf)⟩
  case true =>
    cases i
    case nop => exact ⟨_, exec_nop s⟩
    case prepare ra rb => exact ⟨_, exec_prepare ra rb s⟩
    case reset => exact ⟨_, exec_reset s⟩
    all_goals cases halways

theorem State.Inv.exists_accessEffect {s : State} (h : s.Inv) (a : BusAccess) : ∃ t, accessEffect s a = .next t := by
  cases a with
  | read width offset => exact ⟨_, rfl⟩
  | write width offset v =>
    rw [accessEffect]
    split
    case isFalse => exact ⟨_, rfl⟩
    case isTrue =>
      cases windowReg offset with
      | cmd =>
        rw [State.writeReg, writeCmd, runCommand]
        cases decode s.params v with
        | error e => exact ⟨_, rfl⟩
        | ok i =>
          obtain ⟨t, ht⟩ := h.exists_exec i
          exact ⟨{ t with ci := t.ci + 1 }, congrArg (mapNext _) ht⟩
      | _ => exact ⟨_, rfl⟩

/-- The host's accesses to come are no part of the invariants. -/
theorem State.Inv.setPending {s : State} (h : s.Inv) (rest : List BusAccess) : ({ s with pending := rest } : State).Inv :=
  ⟨h.params, h.rate, h.maxblk, h.bq, h.dl, h.dmemWf, h.dmemFinite, h.dmemBelow, h.env, h.envPairs, h.lfo, h.cv⟩

/-- Settles O22: only a delay command without its region could be stuck, and the invariants give every unit one. -/
theorem noStepIsEverStuck : Obligations.NoStepIsEverStuck := by
  intro s hinv
  obtain ⟨-, hstep⟩ | ⟨a, rest, -, hstep⟩ := step_cases s
  · exact ⟨s, hstep⟩
  · obtain ⟨t, ht⟩ := (hinv.setPending rest).exists_accessEffect a
    exact ⟨_, by rw [hstep, ht]; rfl⟩

/-! ### The integer primitives (R15) -/

theorem dist_eq_natAbs (a b : Nat) : dist a b = ((a : Int) - b).natAbs := by
  unfold dist
  omega

/-- The nearer to n of two naturals, p of two equally near: one step of `nearestBlock`. -/
def nearer (n best p : Nat) : Nat := if dist p n ≤ dist best n then p else best

/-- r is the entry of l nearest to n, of several equally near the largest. -/
def IsNearestIn (l : List Nat) (n r : Nat) : Prop :=
  r ∈ l ∧ ∀ p ∈ l, dist r n ≤ dist p n ∧ (dist r n = dist p n → p ≤ r)

/-- One pass over an ascending list keeps the nearest entry so far, of two equally near the later. -/
theorem isNearestIn_foldl_nearer (n : Nat) (l : List Nat) (b : Nat) (h : (b :: l).Pairwise (· ≤ ·)) :
    IsNearestIn (b :: l) n (l.foldl (nearer n) b) := by
  induction l generalizing b with
  | nil => simp [IsNearestIn]
  | cons x l ih =>
    obtain ⟨hb, hx⟩ := List.pairwise_cons.mp h
    rw [List.foldl_cons, nearer]
    split
    case isTrue hnear =>
      obtain ⟨hmem, hbest⟩ := ih x hx
      refine ⟨List.mem_cons_of_mem b hmem, List.forall_mem_cons.mpr ⟨?_, hbest⟩⟩
      have hbx := hb x List.mem_cons_self
      have hxbest := hbest x List.mem_cons_self
      exact ⟨hxbest.1.trans hnear, fun heq => hbx.trans (hxbest.2 (by omega))⟩
    case isFalse hfar =>
      obtain ⟨hmem, hbest⟩ := ih b (List.pairwise_cons.mpr
        ⟨fun p hp => hb p (List.mem_cons_of_mem x hp), (List.pairwise_cons.mp hx).2⟩)
      obtain ⟨hbbest, hlbest⟩ := List.forall_mem_cons.mp hbest
      refine ⟨List.mem_cons.mpr ((List.mem_cons.mp hmem).imp id (List.mem_cons_of_mem x)), ?_⟩
      refine List.forall_mem_cons.mpr ⟨hbbest, List.forall_mem_cons.mpr ⟨⟨?_, fun heq => ?_⟩, hlbest⟩⟩ <;> omega

theorem isNearestIn_nearestBlock (n : Nat) : IsNearestIn blockSizes n (nearestBlock n) := by
  have h := isNearestIn_foldl_nearer n blockSizes 32 (by decide)
  have hmem : ∀ p, p ∈ 32 :: blockSizes ↔ p ∈ blockSizes := fun p => by simp [blockSizes]
  simp only [IsNearestIn, hmem] at h
  exact h

theorem toNat_xorshift32 (s : Word) :
    let s1 := s.toNat ^^^ (s.toNat * 2 ^ 13 % 2 ^ 32)
    let s2 := s1 ^^^ (s1 / 2 ^ 17)
    (xorshift32 s).toNat = s2 ^^^ (s2 * 2 ^ 5 % 2 ^ 32) := by
  simp only [xorshift32, BitVec.toNat_xor, BitVec.toNat_shiftLeft, BitVec.toNat_ushiftRight, Nat.shiftLeft_eq,
    Nat.shiftRight_eq_div_pow]

/-- A word is told by its XOR with its own left shift, bit after bit from the lowest. -/
theorem eq_of_xor_shiftLeft_eq {x y : Word} {k : Nat} (hk : 0 < k) (h : x ^^^ x <<< k = y ^^^ y <<< k) : x = y := by
  refine BitVec.eq_of_getLsbD_eq fun i hi => ?_
  induction i using Nat.strong_induction_on with
  | _ i ih =>
    have hbit := congrArg (BitVec.getLsbD · i) h
    simp only [BitVec.getLsbD_xor, BitVec.getLsbD_shiftLeft] at hbit
    rcases Nat.lt_or_ge i k with hlt | hge
    · simpa [hlt] using hbit
    · rw [ih (i - k) (by omega) (by omega)] at hbit
      exact Bool.xor_left_inj.mp hbit

/-- A word is told by its XOR with its own right shift, bit after bit from the highest. -/
theorem eq_of_xor_shiftRight_eq {x y : Word} {k : Nat} (hk : 0 < k) (h : x ^^^ x >>> k = y ^^^ y >>> k) : x = y := by
  have hbits (j : Nat) : ∀ i, 32 ≤ i + j → x.getLsbD i = y.getLsbD i := by
    induction j with
    | zero => exact fun i hi => by rw [BitVec.getLsbD_of_ge x i hi, BitVec.getLsbD_of_ge y i hi]
    | succ j ih =>
      intro i hi
      have hbit := congrArg (BitVec.getLsbD · i) h
      simp only [BitVec.getLsbD_xor, BitVec.getLsbD_ushiftRight] at hbit
      rw [ih (k + i) (by omega)] at hbit
      exact Bool.xor_left_inj.mp hbit
  exact BitVec.eq_of_getLsbD_eq fun i _ => hbits 32 i (by omega)

theorem xorshift32_injective {s t : Word} (h : xorshift32 s = xorshift32 t) : s = t :=
  eq_of_xor_shiftLeft_eq (by decide) (eq_of_xor_shiftRight_eq (by decide) (eq_of_xor_shiftLeft_eq (by decide) h))

theorem xorshift32_ne_zero {s : Word} (h : s ≠ 0) : xorshift32 s ≠ 0 := fun hzero =>
  h (xorshift32_injective (hzero.trans (by decide : (0 : Word) = xorshift32 0)))

/-- Settles O7: the pass over the block sizes, the shifts as natural arithmetic, and each of the three shift steps
taking no two words to one. -/
theorem integerPrimitivesFollowTheirRule : Obligations.IntegerPrimitivesFollowTheirRule := by
  refine ⟨fun n => ?_, toNat_xorshift32, fun _ => xorshift32_ne_zero, fun _ _ => xorshift32_injective⟩
  obtain ⟨hmem, hnearest⟩ := isNearestIn_nearestBlock n
  simp only [dist_eq_natAbs] at hnearest
  refine ⟨hmem, fun p hp => ?_⟩
  obtain ⟨q, hq, rfl⟩ : ∃ q ∈ blockSizes, (q : Int) = p := List.mem_map.mp hp
  exact ⟨(hnearest q hq).1, fun heq => Int.ofNat_le.mpr ((hnearest q hq).2 heq)⟩

end Sys2Proof.Machine

namespace Sys2Proof.Machine

/-! ### Signs of results (R10) -/

theorem isFinite_zero : isFinite 0 = true := by decide

theorem sign_zero : Word.sign 0 = false := by decide

theorem sign_qNaN : qNaN.sign = false := by decide

section
variable {a b : Word} (ha : a.sign = false) (hb : b.sign = false)
include ha hb

theorem sign_fadd_of_sign_false : (fadd a b).sign = false := by
  have hsum : ¬(sunits a + sunits b < 0) := by
    rw [sunits_of_sign_false ha, sunits_of_sign_false hb]
    omega
  simp only [fadd, ha, hb, hsum]
  split_ifs
  · exact sign_qNaN
  · exact sign_qNaN
  · exact ha
  · exact hb
  · exact sign_signed _ (by decide)
  · exact sign_signed _ (roundMag_lt _ _)

theorem sign_fmul_of_sign_false : (fmul a b).sign = false := by
  simp only [fmul, ha, hb]
  split_ifs
  · exact sign_qNaN
  · exact sign_qNaN
  · exact sign_signed _ (by decide)
  · exact sign_signed _ (roundMag_lt _ _)

end

theorem sign_fsqrt_of_sign_false {a : Word} (ha : a.sign = false) : (fsqrt a).sign = false := by
  simp only [fsqrt, ha, Bool.false_eq_true, if_false]
  split_ifs
  case pos => exact sign_qNaN
  case pos | pos => exact ha
  all_goals exact sign_signed _ (roundMag_lt _ _)

theorem sign_sanitize {v : Word} (h : v.sign = false) : (sanitize v).1.sign = false := by
  cases hv : isFinite v
  · rw [sanitize_of_not_finite hv]
    decide
  · rwa [sanitize_of_finite hv]

/-! ### Biquad units (R64, R72) -/

section
variable {nch : Nat} {b : BqUnit}

theorem BqUnit.Inv.request (h : b.Inv nch) (ty : FilterType) (rf rq rg : Word) :
    ({ b with type := ty, rf := rf, rq := rq, rg := rg, designed := true } : BqUnit).Inv nch :=
  ⟨h.z1, h.z2, h.absent,
    fun k => (by cases k <;> rfl : BqUnit.coef { b with type := ty, rf, rq, rg, designed := true } k = b.coef k) ▸
      h.coefs k, nofun⟩

theorem BqUnit.Inv.design (h : b.Inv nch) (hdesigned : b.designed = true) (sr : Word) :
    (Machine.design sr b).1.Inv nch :=
  ⟨h.z1, h.z2, h.absent, fun k => ⟨(design_coef_isStoredCoef sr b k).1, (design_coef_isStoredCoef sr b k).2⟩,
    fun hundesigned => absurd (hdesigned.symm.trans hundesigned) nofun⟩

theorem BqUnit.Inv.setZ (h : b.Inv nch) {c : ChanIx} (hc : c.val < nch) {n1 n2 : Word} (h1 : isFinite n1 = true)
    (h2 : isFinite n2 = true) : (b.setZ c n1 n2).Inv nch where
  z1 z hz := (Vector.mem_or_eq_of_mem_set (hi := c.isLt) hz).elim (h.z1 z) fun heq => heq ▸ h1
  z2 z hz := (Vector.mem_or_eq_of_mem_set (hi := c.isLt) hz).elim (h.z2 z) fun heq => heq ▸ h2
  absent k hk := by
    obtain ⟨hz1, hz2⟩ := (b.channelSet_setZ c n1 n2).others k fun heq => absurd hc (not_lt.mpr (heq ▸ hk))
    exact ⟨hz1.trans (h.absent k hk).1, hz2.trans (h.absent k hk).2⟩
  coefs k := (by cases k <;> rfl : (b.setZ c n1 n2).coef k = b.coef k) ▸ h.coefs k
  undesigned := h.undesigned

theorem BqUnit.Inv.biquadStep (h : b.Inv nch) {c : ChanIx} (hc : c.val < nch) (x : Word) :
    (Machine.biquadStep b c x).2.1.Inv nch := by
  by_cases hfinite : b.StepsFinite c x
  · rw [biquadStep_of_stepsFinite hfinite]
    exact h.setZ hc hfinite.2.1 hfinite.2.2
  · rw [biquadStep_of_not_stepsFinite hfinite]
    exact h.setZ hc isFinite_zero isFinite_zero

theorem BqUnit.Inv.clear (h : b.Inv nch) : b.clear.Inv nch where
  z1 z hz := (Vector.mem_replicate.mp hz).2 ▸ isFinite_zero
  z2 z hz := (Vector.mem_replicate.mp hz).2 ▸ isFinite_zero
  absent k _ := by simp [BqUnit.clear, Vector.get_eq_getElem]
  coefs k := (by cases k <;> rfl : b.clear.coef k = b.coef k) ▸ h.coefs k
  undesigned := h.undesigned

theorem BqUnit.Inv.recompute (h : b.Inv nch) (sr : Word) : (recomputeBq sr b).1.Inv nch := by
  rw [recomputeBq_fst]
  split
  case isTrue hdesigned => exact h.design hdesigned sr
  case isFalse => exact h

end

/-! ### Delay units (R65, R72) -/

section
variable {words : Nat} {d : DlUnit}

theorem DlUnit.inv_dlRegion (hwords : 16 ≤ words) (b md : Nat) : (dlRegion words b md).1.Inv words := by
  constructor <;> simp only [dlRegion] <;> omega

theorem DlUnit.Inv.advance (h : d.Inv words) : d.advance.Inv words :=
  ⟨h.cap, h.region, Nat.mod_lt _ (by have := h.cap; show 0 < d.cap; omega)⟩

theorem DlUnit.Inv.clear (h : d.Inv words) : d.clear.Inv words :=
  ⟨h.cap, h.region, by have := h.cap; show 0 < d.cap; omega⟩

end

/-! ### Envelope units (R67, R72) -/

section
variable {limit : Nat} {e : EnvUnit}

theorem EnvUnit.Inv.clearRms (h : e.Inv limit) : e.clearRms.Inv limit where
  window := h.window
  ridx := Nat.zero_lt_of_lt h.ridx
  ringWf := ⟨.nil, nofun⟩
  ringFinite := nofun
  ringBelow := nofun
  sum := isFinite_zero
  level := h.level
  levelSign := h.levelSign

theorem EnvUnit.Inv.clear (h : e.Inv limit) : e.clear.Inv limit :=
  { h.clearRms with level := isFinite_zero, levelSign := sign_zero }

theorem EnvUnit.Inv.pushSquare (h : e.Inv limit) (x : Word) : (e.pushSquare x).1.Inv limit := by
  rw [EnvUnit.pushSquare_eq]
  split
  case isTrue hsum =>
    exact { h with
      ridx := Nat.mod_lt _ (Nat.zero_lt_of_lt h.ridx)
      ringWf := Mem.write_wf h.ringWf _ _
      ringFinite := Mem.write_finite h.ringFinite _ (sanitize_finite _)
      ringBelow := Mem.write_below h.ringBelow h.ridx _
      sum := hsum }
  case isFalse => exact h.clearRms

theorem EnvUnit.Inv.detect (h : e.Inv limit) (x : Word) : (Machine.detect e x).2.1.Inv limit := by
  cases hdet : e.det with
  | peak => rwa [detect_of_peak hdet]
  | rms =>
    rw [detect_of_rms hdet]
    exact h.pushSquare x

/-- The detector leaves a unit alone but for its RMS state. -/
theorem detect_unit (e : EnvUnit) (x : Word) :
    ∃ ring ridx sum, (detect e x).2.1 = { e with ring := ring, ridx := ridx, sum := sum } := by
  obtain hdet | hdet : e.det = .peak ∨ e.det = .rms := by cases e.det <;> simp
  · exact ⟨e.ring, e.ridx, e.sum, congrArg (fun r => r.2.1) (detect_of_peak hdet x)⟩
  · rw [detect_of_rms hdet, EnvUnit.pushSquare_eq]
    split <;> exact ⟨_, _, _, rfl⟩

theorem sign_rms (e : EnvUnit) : e.rms.sign = false := by
  refine sign_fsqrt_of_sign_false ?_
  split
  case isTrue hpos => exact sign_false_of_value_pos (value_posZero ▸ (fLt_iff_value.mp hpos).2.2)
  case isFalse => decide

theorem sign_detect (e : EnvUnit) (x : Word) : (detect e x).1.sign = false := by
  cases hdet : e.det with
  | peak =>
    rw [detect_of_peak hdet]
    exact sign_fabs x
  | rms =>
    rw [detect_of_rms hdet]
    exact sign_rms _

theorem IsEnvPair.rowCoef_has {c g : Word} (h : IsEnvPair c g) : rowCoef.Has c := by
  obtain ⟨hlo, hhi, -⟩ := h
  obtain ⟨-, hnan, hlo⟩ := fLe_iff_value.mp hlo
  obtain ⟨-, -, hhi⟩ := fLe_iff_value.mp hhi
  exact ⟨isFinite_of_between (by decide) (by decide) hnan hlo hhi, hlo, hhi⟩

theorem IsEnvPair.sign_left {c g : Word} (h : IsEnvPair c g) : c.sign = false :=
  sign_false_of_value_pos (h.rowCoef_has.lo.trans_lt' (by decide +kernel))

theorem IsEnvPair.sign_right {c g : Word} (h : IsEnvPair c g) : g.sign = false := by
  obtain ⟨-, hlo, -⟩ := fsub_f1_coef h.rowCoef_has
  obtain ⟨-, -, rfl⟩ := h
  exact sign_false_of_value_pos (hlo.trans_lt' (by norm_num))

theorem IsEnvPair.sign_onePole {c g level x : Word} (h : IsEnvPair c g) (hlevel : level.sign = false)
    (hx : x.sign = false) : (onePole c g level x).sign = false :=
  sign_fadd_of_sign_false (sign_fmul_of_sign_false h.sign_left hlevel) (sign_fmul_of_sign_false h.sign_right hx)

/-- A level followed at sign + keeps it (R336, R345). -/
theorem EnvUnit.sign_target {v : EnvUnit} (hattack : IsEnvPair v.ac v.ag) (hrelease : IsEnvPair v.rc v.rg)
    (hlevel : v.level.sign = false) {x : Word} (hx : x.sign = false) : (v.target x).sign = false := by
  rw [EnvUnit.target_eq]
  split_ifs
  · exact hx
  · exact hattack.sign_onePole hlevel hx
  · exact hrelease.sign_onePole hlevel hx

theorem EnvUnit.Inv.follow (h : e.Inv limit) (hattack : IsEnvPair e.ac e.ag) (hrelease : IsEnvPair e.rc e.rg) {x : Word}
    (hx : x.sign = false) : (Machine.follow e x).1.Inv limit :=
  { h with
    level := sanitize_finite _
    levelSign := sign_sanitize (EnvUnit.sign_target hattack hrelease h.levelSign hx) }

theorem EnvUnit.Inv.process (h : e.Inv limit) (hattack : IsEnvPair e.ac e.ag) (hrelease : IsEnvPair e.rc e.rg)
    (x : Word) : (Machine.follow (Machine.detect e x).2.1 (Machine.detect e x).1).1.Inv limit := by
  have hunit := h.detect x
  obtain ⟨ring, ridx, sum, heq⟩ := detect_unit e x
  rw [heq] at hunit ⊢
  exact hunit.follow hattack hrelease (sign_detect e x)

theorem winSamples_bounds {limit : Nat} (hlimit : 1 ≤ limit) (sr raw : Word) :
    0 < (winSamples limit sr raw).1 ∧ (winSamples limit sr raw).1 ≤ limit := by
  simp only [winSamples]
  omega

theorem EnvUnit.Inv.setWindow (h : e.Inv limit) (rwin : Word) {w : Nat} (hpos : 0 < w) (hle : w ≤ limit) :
    ({ e.clearRms with rwin := rwin, w := w } : EnvUnit).Inv limit :=
  { h.clearRms with window := hle, ridx := hpos, ringBelow := nofun }

theorem isEnvPair_envCoef {sr : Word} (hrate : fLe rowFS.lo sr = true ∧ fLe sr rowFS.hi = true) (raw : Word) :
    IsEnvPair (envCoef sr raw).1.1 (envCoef sr raw).1.2 := by
  obtain ⟨-, -, -, -, hpair, -⟩ := envelopeCoefficientsLieInRange sr raw hrate.1 hrate.2
  exact hpair

end

/-! ### LFO units (R68, R72) -/

section
variable {l : LfoUnit}

theorem toNat_lfoInc_le (sr raw : Word) : (lfoInc sr raw).1.toNat ≤ 2 ^ 31 := by
  simp only [lfoInc, BitVec.toNat_ofNat]
  omega

theorem isUnit_rn32Int (w : Word) : fLe (fabs (rn32Int w.toInt 31)) f1 = true := by
  have habs : w.toInt.natAbs ≤ 2 ^ 31 := by have := w.le_toInt; have := w.toInt_lt; omega
  have hbits : roundMag (w.toInt.natAbs * 2 ^ (149 - 31)) 1 ≤ f1.toNat :=
    roundMag_le_of_le_units finiteNonneg_f1 (by rw [units_f1]; omega)
  obtain ⟨hfin, hle⟩ := signed_finite_of_le (decide (w.toInt < 0)) finiteNonneg_f1 hbits
  rw [fLe_iff_value, value_le_value_iff, sunits_of_sign_false (sign_fabs _), units_fabs, sunits_of_sign_false (by decide)]
  exact ⟨(not_nan_inf_of_finite ((isFinite_fabs _).trans hfin)).1, by decide, Int.ofNat_le.mpr hle⟩

theorem isUnit_zero : fLe (fabs 0) f1 = true := by decide

theorem LfoUnit.Inv.tick (h : l.Inv) : l.tick.Inv := by
  unfold LfoUnit.tick
  split
  · exact ⟨h.inc, h.seed, xorshift32_ne_zero h.rng, isUnit_rn32Int _⟩
  · exact ⟨h.inc, h.seed, h.rng, h.held⟩

theorem LfoUnit.Inv.restart (h : l.Inv) : l.restart.Inv := ⟨h.inc, h.seed, h.seed, isUnit_zero⟩

theorem LfoUnit.Inv.setInc (h : l.Inv) (sr raw rfreq : Word) :
    ({ l with rfreq := rfreq, inc := (lfoInc sr raw).1 } : LfoUnit).Inv :=
  ⟨toNat_lfoInc_le sr raw, h.seed, h.rng, h.held⟩

end

/-! ### Convolver units (R69, R72) -/

section
variable {limit : Nat} {c : CvUnit}

theorem pos_of_mem_blockSizes {b : Nat} (h : b ∈ blockSizes) : 0 < b :=
  (by decide : ∀ b ∈ blockSizes, 0 < b) b h

theorem CvUnit.Inv.clearStream (h : c.Inv limit) {b : Nat} (hb : b ∈ blockSizes) :
    ({ c.clearStream with blk := b } : CvUnit).Inv limit where
  blk := hb
  n := pos_of_mem_blockSizes hb
  position := (Nat.zero_mod b).symm
  inbWf := ⟨.nil, nofun⟩
  inbFinite := nofun
  inbBelow := nofun
  inbHist := nofun
  outbWf := ⟨.nil, nofun⟩
  outbFinite := nofun
  outbBelow := nofun
  hist := nofun
  ir := h.ir
  irLength := h.irLength
  irLoaded := h.irLoaded
  stgLength := h.stgLength

theorem CvUnit.Inv.unload (h : c.Inv limit) : ({ c.clearStream with loaded := false } : CvUnit).Inv limit :=
  { h.clearStream h.blk with irLoaded := nofun }

theorem CvUnit.Inv.stage (h : c.Inv limit) (hroom : c.stg.length < limit) (v : Word) :
    ({ c with stg := c.stg ++ [v] } : CvUnit).Inv limit :=
  { h with stgLength := by simpa using hroom }

theorem CvUnit.Inv.load (h : c.Inv limit) : c.load.Inv limit := by
  rw [CvUnit.load]
  cases hloadable : c.loadable
  case false => exact { h.clearStream h.blk with irLoaded := nofun, stgLength := Nat.zero_le _ }
  case true =>
    obtain ⟨hne, hfinite⟩ := CvUnit.loadable_iff.mp hloadable
    exact { h.clearStream h.blk with
      ir := hfinite, irLength := h.stgLength, irLoaded := fun _ => hne, stgLength := Nat.zero_le _ }

/-- What a sample taken in keeps, whether or not it completes the block. -/
theorem CvUnit.Inv.accept_hist (h : c.Inv limit) (v : Word) {i : Nat} (hi : i < c.n + 1) :
    (c.accept v).inb.read i = (v :: c.hist).getD (c.n - i) 0 := by
  rw [CvUnit.read_inb_accept h.inbWf]
  split
  case isTrue hnew => rw [hnew, Nat.sub_self, List.getD_cons_zero]
  case isFalse hold =>
    rw [h.inbHist i (by omega), show c.n - i = c.n - 1 - i + 1 by omega, List.getD_cons_succ]

theorem CvUnit.Inv.accept_position (h : c.Inv limit) : (c.n + 1) % c.blk = (c.hist.length + 1) % c.blk := by
  rw [h.position, Nat.mod_add_mod]

theorem CvUnit.Inv.accept (h : c.Inv limit) {v : Word} (hv : isFinite v = true) (hn : c.n + 1 < c.blk) :
    (c.accept v).Inv limit :=
  { h with
    n := hn
    position := (Nat.mod_eq_of_lt hn).symm.trans h.accept_position
    inbWf := Mem.write_wf h.inbWf _ _
    inbFinite := Mem.write_finite h.inbFinite _ hv
    inbBelow := Mem.write_below h.inbBelow h.n _
    inbHist := fun _ hi => h.accept_hist v hi
    hist := List.forall_mem_cons.mpr ⟨hv, h.hist⟩ }

theorem CvUnit.Inv.finishBlock (h : c.Inv limit) (p : Limits) {v : Word} (hv : isFinite v = true)
    (hn : c.n + 1 = c.blk) : ((c.accept v).finishBlock p).1.Inv limit :=
  { h with
    n := pos_of_mem_blockSizes h.blk
    position := by
      have hlast := h.accept_position
      rw [hn, Nat.mod_self] at hlast
      exact hlast
    inbWf := Mem.write_wf h.inbWf _ _
    inbFinite := Mem.write_finite h.inbFinite _ hv
    inbBelow := Mem.write_below h.inbBelow h.n _
    inbHist := nofun
    outbWf := Mem.ofWordsFrom_wf _ _
    outbFinite := fun w hw => by
      obtain ⟨-, -, hmem, -⟩ := Mem.ofWordsFrom_bounds _ _ w hw
      obtain ⟨x, -, hx⟩ := List.mem_map.mp hmem
      exact hx ▸ sanitize_finite x
    outbBelow := fun w hw => by
      obtain ⟨-, hlt, -, -⟩ := Mem.ofWordsFrom_bounds _ _ w hw
      rwa [Nat.zero_add, List.length_map, CvUnit.blockOut, List.length_map, List.length_range] at hlt
    hist := List.forall_mem_cons.mpr ⟨hv, h.hist⟩ }

theorem CvUnit.Inv.push (h : c.Inv limit) (p : Limits) {v : Word} (hv : isFinite v = true) :
    (c.push p v).1.Inv limit := by
  by_cases hn : c.n + 1 = c.blk
  · rw [CvUnit.push_of_eq hn]
    exact h.finishBlock p hv hn
  · rw [CvUnit.push_of_ne hn]
    exact h.accept hv (by have := h.n; omega)

end

end Sys2Proof.Machine

namespace Sys2Proof.Machine

/-! ### What the invariants read of a state (R72) -/

/-- Two states agree on everything the invariants and the rate of the coefficients read. -/
structure SameUnits (s t : State) : Prop where
  params : t.params = s.params
  sr : t.sr = s.sr
  maxblk : t.maxblk = s.maxblk
  prepared : t.prepared = s.prepared
  bq : t.bq = s.bq
  dl : t.dl = s.dl
  dmem : t.dmem = s.dmem
  env : t.env = s.env
  lfo : t.lfo = s.lfo
  cv : t.cv = s.cv

/-- What R72 and R202 ask of a step. -/
structure KeepsInvariants (s t : State) : Prop where
  inv : s.Inv → t.Inv
  atRate : s.AtRate → t.AtRate
  params : t.params = s.params

theorem KeepsInvariants.trans {s t u : State} (h : KeepsInvariants s t) (h' : KeepsInvariants t u) :
    KeepsInvariants s u :=
  ⟨h'.inv ∘ h.inv, h'.atRate ∘ h.atRate, h'.params.trans h.params⟩

theorem SameUnits.keepsInvariants {s t : State} (h : SameUnits s t) : KeepsInvariants s t where
  inv hs := by
    obtain ⟨hparams, hsr, hmaxblk, hprepared, hbq, hdl, hdmem, henv, hlfo, hcv⟩ := h
    have hlimits : t.limits = s.limits := congrArg Params.toLimits hparams
    obtain ⟨sparams, srate, smaxblk, sbq, sdl, swf, sfinite, sbelow, senv, spairs, slfo, scv⟩ := hs
    rw [← hparams] at sparams
    rw [← hsr] at srate
    rw [← hmaxblk, ← hprepared] at smaxblk
    rw [← hbq, ← hlimits] at sbq
    rw [← hdl, ← hlimits] at sdl
    rw [← hdmem] at swf sfinite
    rw [← hdmem, ← hlimits] at sbelow
    rw [← henv, ← hlimits] at senv
    rw [← henv, ← hprepared] at spairs
    rw [← hlfo] at slfo
    rw [← hcv, ← hlimits] at scv
    exact ⟨sparams, srate, smaxblk, sbq, sdl, swf, sfinite, sbelow, senv, spairs, slfo, scv⟩
  atRate hs := by
    obtain ⟨-, hsr, -, hprepared, hbq, -, -, henv, -, -⟩ := h
    obtain ⟨sbq, senv⟩ := hs
    rw [← hbq, ← hsr, ← hprepared] at sbq
    rw [← henv, ← hsr, ← hprepared] at senv
    exact ⟨sbq, senv⟩
  params := h.params

theorem State.sameUnits_refl (s : State) : SameUnits s s := ⟨rfl, rfl, rfl, rfl, rfl, rfl, rfl, rfl, rfl, rfl⟩

theorem sameUnits_of_writeResult (s : State) (r : Option (Reg × Word)) (w : Word) (f : FlagSet) :
    SameUnits s ((s.writeResult r).flag w f) := by
  cases r <;> exact ⟨rfl, rfl, rfl, rfl, rfl, rfl, rfl, rfl, rfl, rfl⟩

/-! ### Writing one unit -/

/-- The unit a command writes meets its bank's invariants. -/
def UnitWrite.Inv (s : State) : UnitWrite → Prop
  | .none => True
  | .bq _ x => x.Inv s.limits.nch
  | .dl _ x m => x.Inv s.limits.dmemWords ∧ m.wf ∧ m.Finite ∧ m.Below s.limits.dmemWords
  | .env _ x => x.Inv s.limits.rmsWinMax ∧ (s.prepared = true → IsEnvPair x.ac x.ag ∧ IsEnvPair x.rc x.rg)
  | .lfo _ x => x.Inv
  | .cv _ x => x.Inv s.limits.irMaxLen
  | .pg _ _ => True

/-- The unit a command writes has its coefficients at the state's rate. -/
def UnitWrite.AtRate (s : State) : UnitWrite → Prop
  | .bq _ x => x.designed = true → x.cfs = s.sr
  | .env _ x => x.cfsa = s.sr ∧ x.cfsr = s.sr
  | .none | .dl _ _ _ | .lfo _ _ | .cv _ _ | .pg _ _ => True

theorem forall_mem_set {α : Type} {P : α → Prop} {l : List α} (h : ∀ x ∈ l, P x) {x : α} (hx : P x) (n : Nat) :
    ∀ y ∈ l.set n x, P y :=
  fun y hy => (List.mem_or_eq_of_mem_set hy).elim (h y) fun heq => heq ▸ hx

theorem State.params_writeUnit (s : State) (w : UnitWrite) : (s.writeUnit w).params = s.params := by
  cases w <;> simp [State.writeUnit]

theorem State.Inv.writeUnit {s : State} (h : s.Inv) {w : UnitWrite} (hw : w.Inv s) : (s.writeUnit w).Inv := by
  have hparams : (s.writeUnit w).params.Legal := (s.params_writeUnit w).symm ▸ h.params
  cases w with
  | none => exact h
  | bq u x => exact { h with params := hparams, bq := forall_mem_set h.bq hw u }
  | dl u x m =>
    obtain ⟨hx, hwf, hfinite, hbelow⟩ := hw
    exact { h with
      params := hparams, dl := forall_mem_set h.dl hx u, dmemWf := hwf, dmemFinite := hfinite, dmemBelow := hbelow }
  | env u x =>
    exact { h with
      params := hparams, env := forall_mem_set h.env hw.1 u
      envPairs := fun hprepared => forall_mem_set (h.envPairs hprepared) (hw.2 hprepared) u }
  | lfo u x => exact { h with params := hparams, lfo := forall_mem_set h.lfo hw u }
  | cv u x => exact { h with params := hparams, cv := forall_mem_set h.cv hw u }
  | pg u x => exact { h with params := hparams }

theorem State.AtRate.writeUnit {s : State} (h : s.AtRate) {w : UnitWrite} (hw : w.AtRate s) :
    (s.writeUnit w).AtRate := by
  cases w with
  | bq u x => exact ⟨fun hprepared => forall_mem_set (h.bq hprepared) hw u, h.env⟩
  | env u x => exact ⟨h.bq, fun hprepared => forall_mem_set (h.env hprepared) hw u⟩
  | _ => exact ⟨h.bq, h.env⟩

/-! ### The unit an effect writes -/

section
variable {s : State} {u : UnitIx}

theorem State.Inv.bqAt (h : s.Inv) (hu : u.val < s.bq.length) : (s.bqAt u).Inv s.limits.nch :=
  h.bq _ (getD_mem _ _ _ hu)

theorem State.Inv.envAt (h : s.Inv) (hu : u.val < s.env.length) : (s.envAt u).Inv s.limits.rmsWinMax :=
  h.env _ (getD_mem _ _ _ hu)

theorem State.Inv.envPairsAt (h : s.Inv) (hu : u.val < s.env.length) (hprepared : s.prepared = true) :
    IsEnvPair (s.envAt u).ac (s.envAt u).ag ∧ IsEnvPair (s.envAt u).rc (s.envAt u).rg :=
  h.envPairs hprepared _ (getD_mem _ _ _ hu)

theorem State.Inv.lfoAt (h : s.Inv) (hu : u.val < s.lfo.length) : (s.lfoAt u).Inv := h.lfo _ (getD_mem _ _ _ hu)

theorem State.Inv.cvAt (h : s.Inv) (hu : u.val < s.cv.length) : (s.cvAt u).Inv s.limits.irMaxLen :=
  h.cv _ (getD_mem _ _ _ hu)

end

theorem State.Inv.effect {s : State} (h : s.Inv) {i : Instr} (hwf : i.wf s.params = true) (hprepared : s.prepared = true) :
    (s.effect i).unit.Inv s := by
  cases i
  case bqdes rd ra rb rc ty u =>
    rw [State.effect]
    split
    · trivial
    · exact ((h.bqAt (Instr.lt_of_wf hwf rfl)).request ..).design rfl s.sr
  case bqproc rd ra c u =>
    exact (h.bqAt (Instr.lt_of_wf hwf rfl)).biquadStep (of_decide_eq_true (wf_iff.mp hwf).2) _
  case bqclr u => exact (h.bqAt (Instr.lt_of_wf hwf rfl)).clear
  case dlcfg ra rb u =>
    exact ⟨DlUnit.inv_dlRegion h.params.dmemWords.1 _ _, Mem.zeroRange_wf h.dmemWf _ _,
      Mem.zeroRange_finite h.dmemFinite _ _, Mem.zeroRange_below h.dmemBelow _ _⟩
  case dlwr ra u =>
    have hunit := (h.dlAt (Instr.lt_of_wf hwf rfl)).advance
    have haddr := Nat.lt_of_lt_of_le (Nat.add_lt_add_left hunit.wi _) hunit.region
    exact ⟨hunit, Mem.write_wf h.dmemWf _ _, Mem.write_finite h.dmemFinite _ (s.sample_finite ra),
      Mem.write_below h.dmemBelow haddr _⟩
  case dlclr u =>
    exact ⟨(h.dlAt (Instr.lt_of_wf hwf rfl)).clear, Mem.zeroRange_wf h.dmemWf _ _,
      Mem.zeroRange_finite h.dmemFinite _ _, Mem.zeroRange_below h.dmemBelow _ _⟩
  case envcfg pol det u =>
    have hu : u.val < s.env.length := Instr.lt_of_wf hwf rfl
    exact ⟨{ (h.envAt hu).clearRms with }, h.envPairsAt hu⟩
  case envatk rd ra u =>
    have hu : u.val < s.env.length := Instr.lt_of_wf hwf rfl
    rw [State.effect]
    split
    · trivial
    · exact ⟨{ h.envAt hu with }, fun _ => ⟨isEnvPair_envCoef h.rate _, (h.envPairsAt hu hprepared).2⟩⟩
  case envrel rd ra u =>
    have hu : u.val < s.env.length := Instr.lt_of_wf hwf rfl
    rw [State.effect]
    split
    · trivial
    · exact ⟨{ h.envAt hu with }, fun _ => ⟨(h.envPairsAt hu hprepared).1, isEnvPair_envCoef h.rate _⟩⟩
  case envwin ra u =>
    have hu : u.val < s.env.length := Instr.lt_of_wf hwf rfl
    obtain ⟨hpos, hle⟩ := winSamples_bounds h.params.rmsWinMax.1 s.sr (s.reg ra)
    exact ⟨(h.envAt hu).setWindow _ hpos hle, h.envPairsAt hu⟩
  case envproc rd ra u =>
    have hu : u.val < s.env.length := Instr.lt_of_wf hwf rfl
    obtain ⟨hattack, hrelease⟩ := h.envPairsAt hu hprepared
    refine ⟨(h.envAt hu).process hattack hrelease _, fun _ => ?_⟩
    obtain ⟨ring, ridx, sum, heq⟩ := detect_unit (s.envAt u) (s.sample ra).1
    rw [heq]
    exact ⟨hattack, hrelease⟩
  case envclr u =>
    have hu : u.val < s.env.length := Instr.lt_of_wf hwf rfl
    exact ⟨(h.envAt hu).clear, h.envPairsAt hu⟩
  case lfofrq ra u => exact (h.lfoAt (Instr.lt_of_wf hwf rfl)).setInc ..
  case lfowav | lfoofs => exact { h.lfoAt (Instr.lt_of_wf hwf rfl) with }
  case lfotick rd u => exact (h.lfoAt (Instr.lt_of_wf hwf rfl)).tick
  case lfoseed ra u =>
    have hseed : (if s.reg ra = 0 then 1 else s.reg ra) ≠ 0 := by
      split
      · decide
      · assumption
    exact { h.lfoAt (Instr.lt_of_wf hwf rfl) with seed := hseed, rng := hseed }
  case lforst u => exact (h.lfoAt (Instr.lt_of_wf hwf rfl)).restart
  case cvcfg ra u =>
    simp only [State.effect]
    exact (h.cvAt (Instr.lt_of_wf hwf rfl)).clearStream (isNearestIn_nearestBlock _).1
  case cvpush ra u =>
    rw [State.effect]
    split
    case isTrue hroom => exact (h.cvAt (Instr.lt_of_wf hwf rfl)).stage hroom _
    case isFalse => trivial
  case cvload rd u => exact (h.cvAt (Instr.lt_of_wf hwf rfl)).load
  case cvproc rd ra u => exact (h.cvAt (Instr.lt_of_wf hwf rfl)).push _ (s.sample_finite ra)
  case cvunld u => exact (h.cvAt (Instr.lt_of_wf hwf rfl)).unload
  case cvclr u =>
    have hunit := h.cvAt (u := u) (Instr.lt_of_wf hwf rfl)
    exact hunit.clearStream hunit.blk
  all_goals trivial

theorem State.AtRate.bqAt {s : State} (h : s.AtRate) (hprepared : s.prepared = true) {u : UnitIx}
    (hu : u.val < s.bq.length) : (s.bqAt u).designed = true → (s.bqAt u).cfs = s.sr :=
  h.bq hprepared _ (getD_mem _ _ _ hu)

theorem State.AtRate.envAt {s : State} (h : s.AtRate) (hprepared : s.prepared = true) {u : UnitIx}
    (hu : u.val < s.env.length) : (s.envAt u).cfsa = s.sr ∧ (s.envAt u).cfsr = s.sr :=
  h.env hprepared _ (getD_mem _ _ _ hu)

theorem State.AtRate.effect {s : State} (h : s.AtRate) {i : Instr} (hwf : i.wf s.params = true)
    (hprepared : s.prepared = true) : (s.effect i).unit.AtRate s := by
  cases i
  case bqdes =>
    rw [State.effect]
    split
    · trivial
    · exact fun _ => rfl
  case bqproc rd ra c u =>
    have hkept := sameDesign_biquadStep (s.bqAt u) c (s.sample ra).1
    have hrate := h.bqAt hprepared (u := u) (Instr.lt_of_wf hwf rfl)
    rw [hkept] at hrate
    exact hrate
  case bqclr u => exact h.bqAt hprepared (u := u) (Instr.lt_of_wf hwf rfl)
  case envcfg | envwin | envclr => exact h.envAt hprepared (Instr.lt_of_wf hwf rfl)
  case envatk rd ra u =>
    rw [State.effect]
    split
    · trivial
    · exact ⟨rfl, (h.envAt hprepared (u := u) (Instr.lt_of_wf hwf rfl)).2⟩
  case envrel rd ra u =>
    rw [State.effect]
    split
    · trivial
    · exact ⟨(h.envAt hprepared (u := u) (Instr.lt_of_wf hwf rfl)).1, rfl⟩
  case envproc rd ra u =>
    obtain ⟨ring, ridx, sum, heq⟩ := detect_unit (s.envAt u) (s.sample ra).1
    have hrate := h.envAt hprepared (u := u) (Instr.lt_of_wf hwf rfl)
    rw [State.effect]
    dsimp only
    rw [heq]
    exact hrate
  case cvpush =>
    rw [State.effect]
    split <;> trivial
  all_goals trivial

/-! ### PREPARE and RESET (R201 to R204) -/

theorem forall_mem_map {α : Type} {P Q : α → Prop} {f : α → α} {l : List α} (h : ∀ x ∈ l, P x)
    (hf : ∀ x, P x → Q (f x)) : ∀ y ∈ l.map f, Q y := fun y hy => by
  obtain ⟨x, hx, rfl⟩ := List.mem_map.mp hy
  exact hf x (h x hx)

theorem State.Inv.resetDynamic {s : State} (h : s.Inv) : s.resetDynamic.Inv where
  params := s.resetDynamic_params.symm ▸ h.params
  rate := h.rate
  maxblk := h.maxblk
  bq := forall_mem_map h.bq fun _ hb => hb.clear
  dl := forall_mem_map h.dl fun _ hd => hd.clear
  dmemWf := ⟨.nil, nofun⟩
  dmemFinite := nofun
  dmemBelow := nofun
  env := forall_mem_map h.env fun _ he => he.clear
  envPairs hprepared := forall_mem_map (h.envPairs hprepared) fun _ he => he
  lfo := forall_mem_map h.lfo fun _ hl => hl.restart
  cv := forall_mem_map h.cv fun _ hc => hc.clearStream hc.blk

theorem State.AtRate.resetDynamic {s : State} (h : s.AtRate) : s.resetDynamic.AtRate :=
  ⟨fun hprepared => forall_mem_map (h.bq hprepared) fun _ hb => hb,
    fun hprepared => forall_mem_map (h.env hprepared) fun _ he => he⟩

/-- An envelope unit whose window meets the rate. -/
theorem EnvUnit.Inv.recompute {limit : Nat} {e : EnvUnit} (h : e.Inv limit) (hlimit : 1 ≤ limit) (sr : Word) :
    (recomputeEnv limit sr e).1.clear.Inv limit := by
  obtain ⟨hpos, hle⟩ := winSamples_bounds hlimit sr e.rwin
  exact { (h.setWindow e.rwin hpos hle) with level := isFinite_zero, levelSign := sign_zero }

theorem State.Inv.preparedAt {s : State} (h : s.Inv) {sr maxblk : Word}
    (hrate : fLe rowFS.lo sr = true ∧ fLe sr rowFS.hi = true) (hblk : 1 ≤ maxblk.toNat ∧ maxblk.toNat ≤ 65536) :
    (s.preparedAt sr maxblk).Inv := by
  have henv : ∀ e ∈ s.env.map fun e => (recomputeEnv s.limits.rmsWinMax sr e).1, e.clear.Inv s.limits.rmsWinMax :=
    forall_mem_map h.env fun _ he => he.recompute h.params.rmsWinMax.1 sr
  exact {
    params := (s.preparedAt_params sr maxblk).symm ▸ h.params
    rate := hrate
    maxblk := fun _ => hblk
    bq := forall_mem_map (forall_mem_map h.bq fun _ hb => hb.recompute sr) fun _ hb => hb.clear
    dl := forall_mem_map h.dl fun _ hd => hd.clear
    dmemWf := ⟨.nil, nofun⟩
    dmemFinite := nofun
    dmemBelow := nofun
    env := forall_mem_map henv fun _ he => he
    envPairs := fun _ => forall_mem_map (forall_mem_map h.env fun e _ =>
      ⟨isEnvPair_envCoef hrate e.rta, isEnvPair_envCoef hrate e.rtr⟩) fun _ he => he
    lfo := forall_mem_map (forall_mem_map h.lfo fun l hl => hl.setInc sr l.rfreq l.rfreq) fun _ hl => hl.restart
    cv := forall_mem_map h.cv fun _ hc => hc.clearStream hc.blk }

theorem designed_recomputeBq (sr : Word) (b : BqUnit) :
    (recomputeBq sr b).1.designed = true → (recomputeBq sr b).1.cfs = sr := by
  rw [recomputeBq_fst]
  split
  case isTrue => exact fun _ => rfl
  case isFalse hundesigned => exact fun hdesigned => absurd hdesigned hundesigned

theorem State.atRate_preparedAt (s : State) (sr maxblk : Word) : (s.preparedAt sr maxblk).AtRate where
  bq _ := forall_mem_map (forall_mem_map (P := fun _ => True) (fun _ _ => trivial)
    fun b _ => designed_recomputeBq sr b) fun _ hb => hb
  env _ := forall_mem_map (forall_mem_map (P := fun _ => True) (fun _ _ => trivial) fun _ _ => ⟨rfl, rfl⟩) fun _ he => he

theorem rowFS_clampP (v : Word) : fLe rowFS.lo (clampP v rowFS).1 = true ∧ fLe (clampP v rowFS).1 rowFS.hi = true := by
  obtain ⟨hfinite, hlo, hhi⟩ : rowFS.Has (clampP v rowFS).1 :=
    ClampRow.Ordered.has_clampP ⟨by decide, by decide, by decide +kernel⟩
      ⟨by decide, by decide +kernel, by decide +kernel⟩ v
  have hnan := (not_nan_inf_of_finite hfinite).1
  exact ⟨fLe_iff_value.mpr ⟨by decide, hnan, hlo⟩, fLe_iff_value.mpr ⟨hnan, by decide, hhi⟩⟩

/-! ### Every step keeps the invariants (R72) -/

theorem keepsInvariants_prepare (s : State) (ra rb : Reg) : KeepsInvariants s (s.afterPrepare ra rb) := by
  have hblk : 1 ≤ (BitVec.ofNat 32 (clampBlock (s.u32 rb)).1).toNat ∧
      (BitVec.ofNat 32 (clampBlock (s.u32 rb)).1).toNat ≤ 65536 := by
    rw [toNat_clampBlock]
    omega
  have hprepared : KeepsInvariants s
      (s.preparedAt (clampP (s.reg ra) rowFS).1 (BitVec.ofNat 32 (clampBlock (s.u32 rb)).1)) :=
    ⟨fun h => h.preparedAt (rowFS_clampP _) hblk, fun _ => s.atRate_preparedAt _ _, s.preparedAt_params _ _⟩
  exact hprepared.trans (sameUnits_of_writeResult _ none _ _).keepsInvariants

theorem keepsInvariants_effect {s : State} {i : Instr} (hwf : i.wf s.params = true) (hprepared : s.prepared = true)
    (w : Word) : KeepsInvariants s (s.after (s.effect i) w) := by
  have hunit : KeepsInvariants s (s.writeUnit (s.effect i).unit) :=
    ⟨fun h => h.writeUnit (h.effect hwf hprepared), fun h => h.writeUnit (h.effect hwf hprepared),
      s.params_writeUnit _⟩
  exact hunit.trans (sameUnits_of_writeResult ..).keepsInvariants

theorem Executes.keepsInvariants {i : Instr} {s t : State} (h : Executes s i t) : KeepsInvariants s t := by
  cases h with
  | refused | nop => exact SameUnits.keepsInvariants ⟨rfl, rfl, rfl, rfl, rfl, rfl, rfl, rfl, rfl, rfl⟩
  | prepare ra rb => exact keepsInvariants_prepare s ra rb
  | reset => exact ⟨State.Inv.resetDynamic, State.AtRate.resetDynamic, s.resetDynamic_params⟩
  | effect _ hwf hprepared => exact keepsInvariants_effect hwf hprepared _

/-! ### The state after hardware reset (R6, R72) -/

theorem DlUnit.inv_reset {p : Params} (h : p.Legal) {u : Nat} (hu : u < p.ndl) :
    (DlUnit.reset p u).Inv p.dmemWords where
  cap := (Nat.le_div_iff_mul_le (by omega)).mpr h.dmemWords.2.2
  region := by
    calc u * (p.dmemWords / p.ndl) + p.dmemWords / p.ndl = (u + 1) * (p.dmemWords / p.ndl) := by ring
      _ ≤ p.ndl * (p.dmemWords / p.ndl) := Nat.mul_le_mul_right _ hu
      _ ≤ p.dmemWords := Nat.mul_div_le _ _
  wi := by
    have : 3 ≤ p.dmemWords / p.ndl := (Nat.le_div_iff_mul_le (by omega)).mpr h.dmemWords.2.2
    show 0 < p.dmemWords / p.ndl
    omega

theorem BqUnit.inv_reset (nch : Nat) : BqUnit.reset.Inv nch where
  z1 z hz := (Vector.mem_replicate.mp hz).2 ▸ isFinite_zero
  z2 z hz := (Vector.mem_replicate.mp hz).2 ▸ isFinite_zero
  absent k _ := (by decide : ∀ k, BqUnit.reset.z1.get k = 0 ∧ BqUnit.reset.z2.get k = 0) k
  coefs k := by cases k <;> decide
  undesigned _ := ⟨rfl, rfl, rfl, rfl, rfl⟩

theorem EnvUnit.inv_reset {limit : Nat} (h : 1 ≤ limit) : EnvUnit.reset.Inv limit where
  window := h
  ridx := Nat.one_pos
  ringWf := ⟨.nil, nofun⟩
  ringFinite := nofun
  ringBelow := nofun
  sum := isFinite_zero
  level := isFinite_zero
  levelSign := sign_zero

theorem LfoUnit.inv_reset : LfoUnit.reset.Inv := ⟨by decide, by decide, by decide, isUnit_zero⟩

theorem CvUnit.inv_reset (limit : Nat) : CvUnit.reset.Inv limit where
  blk := by decide
  n := by decide
  position := rfl
  inbWf := ⟨.nil, nofun⟩
  inbFinite := nofun
  inbBelow := nofun
  inbHist := nofun
  outbWf := ⟨.nil, nofun⟩
  outbFinite := nofun
  outbBelow := nofun
  hist := nofun
  ir := nofun
  irLength := Nat.zero_le _
  irLoaded := nofun
  stgLength := Nat.zero_le _

theorem forall_mem_replicate {α : Type} {P : α → Prop} {x : α} (h : P x) (n : Nat) : ∀ y ∈ List.replicate n x, P y :=
  fun _ hy => (List.mem_replicate.mp hy).2 ▸ h

theorem State.inv_resetOf {p : Params} (h : p.Legal) : (State.resetOf p).Inv where
  params := (State.resetOf_params p).symm ▸ h
  rate := (by decide : fLe rowFS.lo 0x473B8000 = true ∧ fLe 0x473B8000 rowFS.hi = true)
  maxblk := nofun
  bq := forall_mem_replicate (BqUnit.inv_reset _) _
  dl d hd := by
    obtain ⟨u, hu, rfl⟩ := List.mem_map.mp hd
    exact DlUnit.inv_reset h (List.mem_range.mp hu)
  dmemWf := ⟨.nil, nofun⟩
  dmemFinite := nofun
  dmemBelow := nofun
  env := forall_mem_replicate (EnvUnit.inv_reset h.rmsWinMax.1) _
  envPairs := nofun
  lfo := forall_mem_replicate LfoUnit.inv_reset _
  cv := forall_mem_replicate (CvUnit.inv_reset _) _

theorem State.atRate_resetOf (p : Params) : (State.resetOf p).AtRate := ⟨nofun, nofun⟩

/-- Settles O20: each bank's reset unit meets its invariants, the delay regions because the default ones partition
DMEM, and an unprepared core has no rate to meet. -/
theorem resetStateMeetsTheInvariants : Obligations.ResetStateMeetsTheInvariants := by
  refine ⟨fun p h => ⟨State.inv_resetOf h, State.atRate_resetOf p, ?_⟩, ?_, rfl⟩
  · exact BitVec.zero_and
  · constructor <;> decide

theorem keepsInvariants_hardwareReset (s : State) : KeepsInvariants s s.hardwareReset where
  inv h :=
    have hsame : SameUnits (State.resetOf s.params) s.hardwareReset := ⟨rfl, rfl, rfl, rfl, rfl, rfl, rfl, rfl, rfl, rfl⟩
    hsame.keepsInvariants.inv (State.inv_resetOf h.params)
  atRate _ := ⟨nofun, nofun⟩
  params := s.hardwareReset_params

theorem Accessed.keepsInvariants {s t : State} {a : BusAccess} (h : Accessed s a t) : KeepsInvariants s t := by
  cases h with
  | hardwareReset => exact keepsInvariants_hardwareReset s
  | command a hexec =>
    exact hexec.keepsInvariants.trans (SameUnits.keepsInvariants ⟨rfl, rfl, rfl, rfl, rfl, rfl, rfl, rfl, rfl, rfl⟩)
  | _ => exact SameUnits.keepsInvariants ⟨rfl, rfl, rfl, rfl, rfl, rfl, rfl, rfl, rfl, rfl⟩

theorem keepsInvariants_of_step {s t : State} (h : step s = .next t) : KeepsInvariants s t := by
  obtain ⟨-, rfl⟩ | ⟨a, rest, u, d, -, haccess, rfl⟩ := accessed_of_step h
  · exact t.sameUnits_refl.keepsInvariants
  · have hpop : KeepsInvariants s { s with pending := rest } :=
      SameUnits.keepsInvariants ⟨rfl, rfl, rfl, rfl, rfl, rfl, rfl, rfl, rfl, rfl⟩
    have hobserve : KeepsInvariants u (u.observe d) :=
      SameUnits.keepsInvariants ⟨rfl, rfl, rfl, rfl, rfl, rfl, rfl, rfl, rfl, rfl⟩
    exact (hpop.trans haccess.keepsInvariants).trans hobserve

/-- Settles O21: an access writes nothing the invariants read, resets the core, or executes a command, which keeps
them bank by bank. -/
theorem stepsKeepTheInvariants : Obligations.StepsKeepTheInvariants := by
  intro s t hstep
  obtain ⟨hinv, hrate, hparams⟩ := keepsInvariants_of_step hstep
  exact ⟨hinv, hrate, hparams⟩

/-! ### The level of an envelope unit (R345) -/

/-- With an instant attack a rise of a peak is followed exactly (R341). -/
theorem level_of_instantAttack {e : EnvUnit} {x : Word} (hdet : e.det = .peak) (hpol : e.pol = .instantAttack)
    (hx : isFinite x = true) (hlevel : isFinite e.level = true) (hrise : value e.level < |value x|) :
    (follow (detect e x).2.1 (detect e x).1).1.level = fabs x := by
  have hfinite : isFinite (fabs x) = true := (isFinite_fabs x).trans hx
  have hlt : fLt e.level (fabs x) = true :=
    fLt_iff_value.mpr ⟨(not_nan_inf_of_finite hlevel).1, (not_nan_inf_of_finite hfinite).1, (value_fabs x).symm ▸ hrise⟩
  rw [detect_of_peak hdet, follow, EnvUnit.target_eq, if_pos hlt, if_pos hpol, sanitize_of_finite hfinite]

/-- Settles O46: the level ENVPROC writes is that of a unit which meets the invariants. -/
theorem envelopeLevelIsNeverNegative : Obligations.EnvelopeLevelIsNeverNegative := by
  intro rd ra u s hinv hu hprepared
  have hwf : (Instr.envproc rd ra u).wf s.params = true := Instr.wf_of_unit rfl hu rfl
  obtain ⟨hattack, hrelease⟩ := hinv.envPairsAt hu hprepared
  have hunit := (hinv.envAt hu).process hattack hrelease (s.sample ra).1
  have hexec := exec_of_prepared rfl hwf hprepared rfl
  have hresult : (s.after (s.effect (.envproc rd ra u)) (encode (.envproc rd ra u))).reg rd =
      (follow (detect (s.envAt u) (s.sample ra).1).2.1 (detect (s.envAt u) (s.sample ra).1).1).1.level := by
    rw [State.after, State.reg_flag, State.effect, State.writeResult, State.reg_setReg, if_pos rfl]
  refine ⟨_, hexec, hresult ▸ hunit.level, hresult ▸ hunit.levelSign, fun hdet hpol hx hrise => ?_⟩
  have hsample : (s.sample ra).1 = s.reg ra := congrArg Prod.fst (sanitize_of_finite hx)
  rw [hresult, hsample]
  exact level_of_instantAttack hdet hpol hx (hinv.envAt hu).level hrise

end Sys2Proof.Machine

namespace Sys2Proof.Machine

/-! ### What processing can see of a state (R210): not the flags, and not LAST of a slot that was never checked -/

/-- LAST counts only while VALID holds (R462). -/
def PgSlot.known (p : PgSlot) : PgSlot := { p with last := if p.valid then p.last else 0 }

/-- The state without the flags and without the LAST of invalid slots: no processing command reads them. -/
def State.visible (s : State) : State := { s with status := 0, errcmd := 0, pg := s.pg.map PgSlot.known }

@[simp] theorem State.visible_params (s : State) : s.visible.params = s.params := by
  simp [State.visible, State.params]

theorem PgSlot.known_comp_known : PgSlot.known ∘ PgSlot.known = PgSlot.known := by
  funext p
  cases hvalid : p.valid <;> simp [PgSlot.known, hvalid]

theorem State.visible_visible (s : State) : s.visible.visible = s.visible := by
  simp only [State.visible, List.map_map, PgSlot.known_comp_known]

theorem State.visible_writeResult_flag (s : State) (r : Option (Reg × Word)) (w : Word) (f : FlagSet) :
    ((s.writeResult r).flag w f).visible = s.visible.writeResult r := by
  cases r <;> rfl

theorem PgSlot.rearm_known (p : PgSlot) : p.known.rearm = p.rearm := rfl

theorem PgSlot.changed_known (p : PgSlot) : p.known.changed = p.changed := by
  cases hvalid : p.valid <;> simp [PgSlot.changed, PgSlot.known, hvalid]

theorem State.pgAt_visible (s : State) (u : UnitIx) : s.visible.pgAt u = (s.pgAt u).known := by
  rcases Nat.lt_or_ge u.val s.pg.length with hlt | hge
  · have hmap : (s.pg.map PgSlot.known).getD u.val PgSlot.reset = (s.pg.getD u.val PgSlot.reset).known :=
      getD_map _ _ _ _ hlt
    exact hmap
  · have hvisible : s.visible.pgAt u = PgSlot.reset := List.getD_eq_default _ _ (by simpa [State.visible] using hge)
    have hslot : s.pgAt u = PgSlot.reset := List.getD_eq_default _ _ hge
    rw [hvisible, hslot]
    rfl

theorem State.visible_writeUnit (s : State) (w : UnitWrite) : (s.visible.writeUnit w).visible = (s.writeUnit w).visible := by
  cases w with
  | none => exact s.visible_visible
  | pg u x =>
    simp only [State.visible, State.writeUnit, State.setPg, List.map_set, List.map_map, PgSlot.known_comp_known]
  | bq u x => exact congrArg (·.setBq u x) s.visible_visible
  | dl u x m => exact congrArg (fun t => (t.setDl u x).setDmem m) s.visible_visible
  | env u x => exact congrArg (·.setEnv u x) s.visible_visible
  | lfo u x => exact congrArg (·.setLfo u x) s.visible_visible
  | cv u x => exact congrArg (·.setCv u x) s.visible_visible

theorem State.effect_visible (s : State) {i : Instr} (h : i.configures = false) : s.visible.effect i = s.effect i := by
  cases i
  case pgchk rd u =>
    simp only [State.effect, State.pgAt_visible, PgSlot.rearm_known, PgSlot.changed_known]
  case pgget rd u =>
    simp only [State.effect, State.pgAt_visible]
    rfl
  case prepare | bqdes | dlcfg | envcfg | envatk | envrel | envwin | lfofrq | lfowav | lfoofs | lfoseed | cvcfg | cvpush |
      cvload | cvunld | pgset => cases h
  all_goals rfl

theorem State.visible_after (s : State) (e : Effect) (w : Word) :
    (s.visible.after e w).visible = (s.after e w).visible := by
  rw [State.after, State.after, State.visible_writeResult_flag, State.visible_writeResult_flag, State.visible_writeUnit]

theorem State.visible_resetDynamic (s : State) : s.visible.resetDynamic.visible = s.resetDynamic.visible := by
  simp only [State.visible, State.resetDynamic, List.map_map]
  rfl

theorem State.hasRegion_visible (s : State) (i : Instr) : s.visible.hasRegion i = s.hasRegion i := by
  cases i <;> rfl

/-- A processing command does the same to what it can see. -/
theorem exec_visible {i : Instr} (h : i.configures = false) (s : State) :
    mapNext State.visible (exec i s.visible) = mapNext State.visible (exec i s) := by
  cases halways : i.always
  case true =>
    cases i
    case nop =>
      rw [exec_nop, exec_nop]
      exact congrArg Host.Outcome.next s.visible_visible
    case reset =>
      rw [exec_reset, exec_reset]
      exact congrArg Host.Outcome.next s.visible_resetDynamic
    case prepare => cases h
    all_goals cases halways
  case false =>
    have hraise (f : FlagSet) (w : Word) : (s.visible.raise f w).visible = (s.raise f w).visible := s.visible_visible
    have hparams := s.visible_params
    cases hwf : i.wf s.params
    case false =>
      rw [exec_of_not_wf (s := s.visible) halways (hparams.symm ▸ hwf), exec_of_not_wf halways hwf]
      exact congrArg Host.Outcome.next (hraise ..)
    case true =>
      cases hprepared : s.prepared
      case false =>
        rw [exec_of_not_prepared (s := s.visible) halways (hparams.symm ▸ hwf) hprepared,
          exec_of_not_prepared halways hwf hprepared]
        exact congrArg Host.Outcome.next (hraise ..)
      case true =>
        rw [exec_eq_frame halways, exec_eq_frame halways,
          frame_prepared (s := s.visible) (hparams.symm ▸ hwf) hprepared, frame_prepared hwf hprepared, State.runEffect,
          State.runEffect, s.effect_visible h, s.hasRegion_visible]
        split
        · exact congrArg Host.Outcome.next (s.visible_after _ _)
        · rfl

theorem exec_of_visible_eq {i : Instr} (h : i.configures = false) {s s' t : State} (hvisible : s'.visible = s.visible)
    (hexec : exec i s = .next t) : ∃ t', exec i s' = .next t' ∧ t'.visible = t.visible := by
  have hmap : mapNext State.visible (exec i s') = .next t.visible := by
    rw [← exec_visible h, hvisible, exec_visible h, hexec]
    rfl
  obtain ⟨t', hnext, heq⟩ := mapNext_next_iff.mp hmap
  exact ⟨t', hnext, heq.symm⟩

/-- Every operation of a host program is a register load or a processing command. -/
def OnlyProcesses (ops : List HostOp) : Prop := ∀ op ∈ ops, ∀ i, op = .command i → i.configures = false

theorem onlyProcesses_cons {op : HostOp} {ops : List HostOp} (h : OnlyProcesses (op :: ops)) : OnlyProcesses ops :=
  fun o ho => h o (List.mem_cons_of_mem op ho)

theorem runOps_command_next {i : Instr} {ops : List HostOp} {s t : State} (h : runOps (.command i :: ops) s = .next t) :
    ∃ u, exec i s = .next u ∧ runOps ops u = .next t := by
  rw [runOps] at h
  split at h
  case h_1 u hexec => exact ⟨u, hexec, h⟩
  all_goals cases h

/-- Two runs from states that look alike stay alike. -/
theorem runOps_of_visible_eq {ops : List HostOp} {s s' t : State} (h : OnlyProcesses ops)
    (hvisible : s'.visible = s.visible) (hrun : runOps ops s = .next t) :
    ∃ t', runOps ops s' = .next t' ∧ t'.visible = t.visible := by
  induction ops generalizing s s' with
  | nil =>
    cases hrun
    exact ⟨s', rfl, hvisible⟩
  | cons op ops ih =>
    cases op with
    | load r v => exact ih (onlyProcesses_cons h) (congrArg (·.setReg r v) hvisible) hrun
    | command i =>
      obtain ⟨u, hexec, hrest⟩ := runOps_command_next hrun
      obtain ⟨u', hexec', hu⟩ := exec_of_visible_eq (h _ List.mem_cons_self i rfl) hvisible hexec
      obtain ⟨t', hrest', ht⟩ := ih (onlyProcesses_cons h) hu hrest
      refine ⟨t', ?_, ht⟩
      rw [runOps, hexec']
      exact hrest'

/-! ### A clear undoes processing (R204, R210) -/

/-- The state cleared, its data registers replaced, as far as processing can see it. -/
def State.cleared (s : State) (regs : Vector Word 8) : State := { s.resetDynamic with regs := regs }.visible

/-- Clearing the unit written gives what clearing the old one gives. -/
def UnitWrite.ClearsTo (s : State) : UnitWrite → Prop
  | .none => True
  | .bq u x => x.clear = (s.bqAt u).clear
  | .dl u x _ => x.clear = (s.dlAt u).clear
  | .env u x => x.clear = (s.envAt u).clear
  | .lfo u x => x.restart = (s.lfoAt u).restart
  | .cv u x => x.clearStream = (s.cvAt u).clearStream
  | .pg u x => x.clear.known = (s.pgAt u).clear.known

theorem map_set_of_eq {α β : Type} (f : α → β) {l : List α} {n : Nat} {x d : α} (h : f x = f (l.getD n d)) :
    (l.set n x).map f = l.map f := by
  rcases Nat.lt_or_ge n l.length with hlt | hge
  · rw [List.map_set, h, List.getD_eq_getElem _ _ hlt, ← List.getElem_map f (h := by simpa using hlt),
      List.set_getElem_self]
  · rw [List.set_eq_of_length_le hge]

theorem State.cleared_writeUnit (s : State) {w : UnitWrite} (h : w.ClearsTo s) (regs : Vector Word 8) :
    (s.writeUnit w).cleared regs = s.cleared regs := by
  cases w with
  | none => rfl
  | bq u x => simp only [State.cleared, State.writeUnit, State.setBq, State.resetDynamic, map_set_of_eq _ h]
  | dl u x m =>
    simp only [State.cleared, State.writeUnit, State.setDl, State.setDmem, State.resetDynamic, map_set_of_eq _ h]
  | env u x => simp only [State.cleared, State.writeUnit, State.setEnv, State.resetDynamic, map_set_of_eq _ h]
  | lfo u x => simp only [State.cleared, State.writeUnit, State.setLfo, State.resetDynamic, map_set_of_eq _ h]
  | cv u x => simp only [State.cleared, State.writeUnit, State.setCv, State.resetDynamic, map_set_of_eq _ h]
  | pg u x =>
    have hslot : (PgSlot.known ∘ PgSlot.clear) x = (PgSlot.known ∘ PgSlot.clear) (s.pgAt u) := h
    simp only [State.cleared, State.visible, State.writeUnit, State.setPg, State.resetDynamic, List.map_map,
      map_set_of_eq _ hslot]

theorem clearsTo_effect (s : State) {i : Instr} (h : i.configures = false) : (s.effect i).unit.ClearsTo s := by
  cases i
  case bqproc rd ra c u =>
    rw [State.effect]
    by_cases hfinite : (s.bqAt u).StepsFinite c (s.sample ra).1
    · rw [biquadStep_of_stepsFinite hfinite]
      rfl
    · rw [biquadStep_of_not_stepsFinite hfinite]
      rfl
  case envproc rd ra u =>
    obtain ⟨ring, ridx, sum, heq⟩ := detect_unit (s.envAt u) (s.sample ra).1
    rw [State.effect, heq]
    rfl
  case lfotick rd u =>
    rw [State.effect, LfoUnit.tick]
    split <;> rfl
  case cvproc rd ra u =>
    rw [State.effect]
    by_cases hlast : (s.cvAt u).n + 1 = (s.cvAt u).blk
    · rw [CvUnit.push_of_eq hlast]
      rfl
    · rw [CvUnit.push_of_ne hlast]
      rfl
  case bqclr | dlwr | dlclr | envclr | lforst | cvclr | pgchk => rfl
  case prepare | bqdes | dlcfg | envcfg | envatk | envrel | envwin | lfofrq | lfowav | lfoofs | lfoseed | cvcfg | cvpush |
      cvload | cvunld | pgset => cases h
  all_goals trivial

theorem Executes.cleared {i : Instr} (h : i.configures = false) {s t : State} (hexec : Executes s i t)
    (regs : Vector Word 8) : t.cleared regs = s.cleared regs := by
  cases hexec with
  | refused | nop => rfl
  | prepare => cases h
  | reset => rw [State.cleared, State.resetDynamic_resetDynamic, State.cleared]
  | effect =>
    rw [← s.cleared_writeUnit (clearsTo_effect s h), State.after]
    cases (s.effect i).result <;> rfl

theorem runOps_cleared {ops : List HostOp} {s t : State} (h : OnlyProcesses ops) (hrun : runOps ops s = .next t)
    (regs : Vector Word 8) : t.cleared regs = s.cleared regs := by
  induction ops generalizing s with
  | nil =>
    cases hrun
    rfl
  | cons op ops ih =>
    cases op with
    | load r v => exact ih (s := s.setReg r v) (onlyProcesses_cons h) hrun
    | command i =>
      obtain ⟨u, hexec, hrest⟩ := runOps_command_next hrun
      rw [ih (onlyProcesses_cons h) hrest]
      exact (executes_of_exec hexec).cleared (h _ List.mem_cons_self i rfl) regs

theorem resetDynamic_preparedAt_flag (s : State) (sr maxblk w : Word) (f : FlagSet) :
    ((s.preparedAt sr maxblk).flag w f).resetDynamic = (s.preparedAt sr maxblk).flag w f :=
  congrArg (·.flag w f) (State.resetDynamic_resetDynamic _)

theorem resetDynamic_of_exec_prepare {ra rb : Reg} {s t : State} (h : exec (.prepare ra rb) s = .next t) :
    t.resetDynamic = t := by
  rw [exec_prepare] at h
  cases h
  exact resetDynamic_preparedAt_flag ..

/-- Settles O27: after the clear the state looks as it did before the run, and runs from states that look alike leave
the same data registers. -/
theorem processingRepeatsAfterReset : Obligations.ProcessingRepeatsAfterReset := by
  refine ⟨fun ra rb s t => resetDynamic_of_exec_prepare, fun ops pre s t tp hclear hops hpre hrun hprefix => ?_⟩
  have hvisible : ({ t.resetDynamic with regs := s.regs } : State).visible = s.visible := by
    have hcleared := runOps_cleared hops hrun s.regs
    rwa [State.cleared, State.cleared, hclear] at hcleared
  obtain ⟨t', hrun', heq⟩ := runOps_of_visible_eq (fun op hop => hops op (hpre.subset hop)) hvisible hprefix
  have hregs : t'.visible.regs = tp.visible.regs := congrArg State.regs heq
  exact ⟨t', hrun', hregs⟩

end Sys2Proof.Machine

namespace Sys2Proof.Machine

/-! ### Zeros and NaNs of the arithmetic (R10) -/

theorem isZero_cases {v : Word} (h : isZero v = true) : v = 0 ∨ v = 0x80000000 := by
  have hlt := v.isLt
  simp only [isZero, expField, fracField, Bool.and_eq_true, beq_iff_eq] at h
  rcases Nat.lt_or_ge v.toNat (2 ^ 31) with hv | hv
  · exact .inl (BitVec.eq_of_toNat_eq (by change v.toNat = 0; omega))
  · exact .inr (BitVec.eq_of_toNat_eq (by change v.toNat = 0x80000000; omega))

theorem isInf_cases {v : Word} (h : isInf v = true) : v = 0x7F800000 ∨ v = 0xFF800000 := by
  have hlt := v.isLt
  simp only [isInf, expField, fracField, Bool.and_eq_true, beq_iff_eq] at h
  rcases Nat.lt_or_ge v.toNat (2 ^ 31) with hv | hv
  · exact .inl (BitVec.eq_of_toNat_eq (by change v.toNat = 0x7F800000; omega))
  · exact .inr (BitVec.eq_of_toNat_eq (by change v.toNat = 0xFF800000; omega))

theorem class_cases (v : Word) : isNaN v = true ∨ isInf v = true ∨ isFinite v = true := by
  simp only [isNaN, isInf, isFinite, Bool.and_eq_true, beq_iff_eq, bne_iff_ne]
  omega

theorem isZero_of_units_eq_zero {w : Word} (h : units w = 0) : isZero w = true :=
  isZero_of_sunits_eq_zero (Int.natAbs_eq_zero.mp ((natAbs_sunits w).trans h))

theorem fadd_of_isNaN_right {b : Word} (h : isNaN b = true) (a : Word) : fadd a b = qNaN := by simp [fadd, h]

theorem fmul_of_isNaN_right {b : Word} (h : isNaN b = true) (a : Word) : fmul a b = qNaN := by simp [fmul, h]

/-- A zero factor gives a zero, or the NaN of an invalid operation. -/
theorem fmul_zero_left (v : Word) : isZero (fmul 0 v) = true ∨ fmul 0 v = qNaN := by
  obtain h | h | h := class_cases v
  · exact .inr (fmul_of_isNaN_right h 0)
  · right
    obtain rfl | rfl := isInf_cases h <;> decide +kernel
  · left
    rw [fmul_of_finiteNonneg ⟨by decide, by decide⟩ h, show units 0 = 0 by decide, Nat.zero_mul,
      roundMag_zero (Nat.two_pow_pos 149)]
    cases v.sign <;> decide

theorem isZero_fmul {a b : Word} (ha : isFinite a = true) (hb : isZero b = true) : isZero (fmul a b) = true := by
  have hbfin : isFinite b = true := by obtain rfl | rfl := isZero_cases hb <;> decide
  simp only [fmul, not_nan_inf_of_finite ha, not_nan_inf_of_finite hbfin, units_eq_zero_of_isZero hb, Nat.mul_zero,
    roundMag_zero (Nat.two_pow_pos 149), Bool.or_self, Bool.false_eq_true, if_false]
  cases a.sign != b.sign <;> decide

/-- The NaN of an invalid operation is the only NaN a sum gives. -/
theorem fadd_eq_qNaN {a b : Word} (h : isNaN (fadd a b) = true) : fadd a b = qNaN := by
  simp only [fadd] at h ⊢
  split_ifs at h ⊢ with hnan hinfa hsigns hinfb hzero
  · rfl
  · rfl
  · simp [h] at hnan
  · simp [h] at hnan
  · cases hs : a.sign && b.sign <;> rw [hs] at h <;> revert h <;> decide
  · rw [isNaN_signed_roundMag] at h
    cases h

theorem fmul_f1_fadd (a b : Word) : fmul f1 (fadd a b) = fadd a b := by
  obtain h | h | h := class_cases (fadd a b)
  · rw [fmul_of_isNaN_right h, fadd_eq_qNaN h]
  · obtain h | h := isInf_cases h <;> rw [h] <;> decide +kernel
  · exact fmul_f1 h

theorem fmul_f1_fsub (a b : Word) : fmul f1 (fsub a b) = fsub a b := fmul_f1_fadd a (fneg b)

/-! ### A design at 0 dB (R246, R256) -/

/-- At A = 1 a product and a quotient by A are one. -/
theorem fmul_f1_right_eq_fdiv (a : Word) : fmul a f1 = fdiv a f1 := by
  obtain h | h | h := class_cases a
  · simp [fmul, fdiv, h]
  · obtain rfl | rfl := isInf_cases h <;> decide +kernel
  · rw [fdiv_of_isFinite h (by decide) (by decide +kernel)]
    simp only [fmul, not_nan_inf_of_finite h, units_f1, show isNaN f1 = false by decide, show isInf f1 = false by decide,
      Bool.or_self, Bool.false_eq_true, if_false]

theorem fdiv_self {a : Word} (h : isFinite (fdiv a a) = true) : fdiv a a = f1 := by
  obtain ha | ha | ha := class_cases a
  · have hnan : fdiv a a = qNaN := by simp [fdiv, ha]
    rw [hnan] at h
    exact absurd h (by decide)
  · obtain rfl | rfl := isInf_cases ha <;> revert h <;> decide +kernel
  · rcases Nat.eq_zero_or_pos (units a) with hzero | hpos
    · obtain rfl | rfl := isZero_cases (isZero_of_units_eq_zero hzero) <;> revert h <;> decide +kernel
    · rw [fdiv_of_isFinite ha ha hpos, roundMag_self_ratio hpos, bne_self_eq_false]
      rfl

/-- Zeros of either sign are stored as one coefficient (R247). -/
theorem normCoef_of_isZero {b : Word} (h : isZero b = true) (a0 : Word) : normCoef b a0 = normCoef 0 a0 := by
  obtain rfl | rfl := isZero_cases h
  · rfl
  obtain ha | ha | ha := class_cases a0
  · simp [normCoef, fdiv, ha]
  · obtain rfl | rfl := isInf_cases ha <;> decide +kernel
  · rcases Nat.eq_zero_or_pos (units a0) with hzero | hpos
    · obtain rfl | rfl := isZero_cases (isZero_of_units_eq_zero hzero) <;> decide +kernel
    · rw [normCoef, normCoef, fdiv_of_isFinite (by decide) ha hpos, fdiv_of_isFinite (by decide) ha hpos,
        show units 0x80000000 = 0 by decide, show units 0 = 0 by decide, Nat.zero_mul, roundMag_zero hpos]
      cases a0.sign <;> decide

theorem fmul_fneg_f2 (v : Word) : fmul f2 (fneg v) = fmul fm2 v := by
  obtain h | h | h := class_cases v
  · rw [fmul_of_isNaN_right h, fmul_of_isNaN_right (by rwa [isNaN_fneg])]
  · obtain rfl | rfl := isInf_cases h <;> decide +kernel
  · simp only [fmul, isNaN_fneg, isInf_fneg, not_nan_inf_of_finite h, units_fneg, sign_fneg,
      show units fm2 = units f2 by decide +kernel, show isNaN f2 = false by decide, show isInf f2 = false by decide,
      show isNaN fm2 = false by decide, show isInf fm2 = false by decide, show f2.sign = false by decide,
      show fm2.sign = true by decide, Bool.or_self, Bool.false_eq_true, if_false]
    cases v.sign <;> rfl

theorem fneg_signed {s : Bool} {m : Nat} (h : m < 2 ^ 31) : fneg (signed s m) = signed (!s) m := by
  refine BitVec.eq_of_toNat_eq ?_
  rw [toNat_fneg, sign_signed s h, signed_toNat _ h, signed_toNat _ h]
  cases s <;> simp
  omega

/-- Of a word that is neither a zero nor a NaN, 0 - v and 0 + v are opposite. -/
theorem fsub_zero_left {v : Word} (hnan : isNaN v = false) (hzero : isZero v = false) :
    fsub 0 v = fneg (fadd 0 v) := by
  obtain h | h | h := class_cases v
  · rw [hnan] at h
    cases h
  · obtain rfl | rfl := isInf_cases h <;> decide +kernel
  · have hne : sunits v ≠ 0 := fun hz => by
      rw [isZero_of_sunits_eq_zero hz] at hzero
      cases hzero
    simp only [fsub, fadd, isNaN_fneg, isInf_fneg, not_nan_inf_of_finite h, sunits_fneg, show sunits 0 = 0 by decide,
      show isNaN 0 = false by decide, show isInf 0 = false by decide, zero_add, neg_eq_zero, hne, Bool.or_self,
      Bool.false_eq_true, if_false, Int.natAbs_neg, Int.neg_lt_zero_iff]
    rw [fneg_signed (roundMag_lt _ _)]
    congr 1
    rcases lt_or_gt_of_ne hne with hneg | hpos
    · simp [hneg, hneg.le]
    · simp [hpos, hpos.le]

/-- The middle coefficients of a shelf at 0 dB, which may differ in the sign of a zero. -/
theorem normCoef_shelf (v a0 : Word) : normCoef (fmul f2 (fsub 0 v)) a0 = normCoef (fmul fm2 (fadd 0 v)) a0 := by
  cases hnan : isNaN v
  case true =>
    rw [fadd_of_isNaN_right hnan, fsub, fadd_of_isNaN_right (by rwa [isNaN_fneg])]
    rfl
  case false =>
    cases hzero : isZero v
    case false => rw [fsub_zero_left hnan hzero, fmul_fneg_f2]
    case true =>
      have hpos : isZero (fmul f2 (fsub 0 v)) = true := by obtain rfl | rfl := isZero_cases hzero <;> decide +kernel
      have hneg : isZero (fmul fm2 (fadd 0 v)) = true := by obtain rfl | rfl := isZero_cases hzero <;> decide +kernel
      rw [normCoef_of_isZero hpos, normCoef_of_isZero hneg]

/-- The coefficients that make a filter the identity once normalized. -/
structure RawCoefs.Unity (r : RawCoefs) : Prop where
  b0 : r.b0 = r.a0
  b1 : normCoef r.b1 r.a0 = normCoef r.a1 r.a0
  b2 : r.b2 = r.a2

theorem fsub_f2_zero_product (cs : Word) : fsub f2 (fmul 0 cs) = fadd f2 (fmul 0 cs) := by
  obtain h | h := fmul_zero_left cs
  · obtain h | h := isZero_cases h <;> rw [h] <;> decide +kernel
  · rw [h]
    decide +kernel

theorem unity_cookbook {t : FilterType} (ht : t = .peak ∨ t = .lowShelf ∨ t = .highShelf) (cs alpha : Word) :
    (cookbook t cs alpha f1).Unity := by
  have hsum : fadd f1 f1 = f2 := by decide +kernel
  have hdiff : fsub f1 f1 = 0 := by decide +kernel
  have hf2 : fmul f2 f1 = f2 := by decide +kernel
  have hfm2 : fmul fm2 f1 = fm2 := by decide +kernel
  obtain rfl | rfl | rfl := ht
  · simp only [cookbook, fmul_f1_right_eq_fdiv]
    exact ⟨rfl, rfl, rfl⟩
  · simp only [cookbook, hsum, hdiff, hf2, fmul_f1_fadd, fmul_f1_fsub, fsub_f2_zero_product]
    exact ⟨rfl, normCoef_shelf _ _, rfl⟩
  · simp only [cookbook, hsum, hdiff, hfm2, fmul_f1_fadd, fmul_f1_fsub, fsub_f2_zero_product]
    exact ⟨rfl, (normCoef_shelf _ _).symm, rfl⟩

theorem pow10_32_zero_gain {g : Word} (h : isZero g = true) : pow10_32 (fdiv g f40) = f1 := by
  have hquotient : isZero (fdiv g f40) = true := by obtain rfl | rfl := isZero_cases h <;> decide +kernel
  exact if_pos hquotient

/-- Settles O30: at 0 dB the amplitude is 1.0, the rows of R246 give a0 = b0 and the same other coefficients, and a
finite quotient of a0 by itself is 1.0; the passthrough set has the property too. -/
theorem zeroGainDesignIsUnity : Obligations.ZeroGainDesignIsUnity := by
  intro sr b htype hgain
  have hunity : (b.rawCoefs sr).Unity := by
    rw [BqUnit.rawCoefs, designRaw, pow10_32_zero_gain hgain]
    exact unity_cookbook htype _ _
  obtain ⟨hb0, hb1, hb2⟩ := hunity
  rw [design_eq, hb0, hb1, hb2]
  cases hbad : (b.rawCoefs sr).bad
  case true => exact ⟨rfl, rfl, rfl⟩
  case false =>
    have hfinite := (RawCoefs.quotientsFinite_of_not_bad hbad).b0
    rw [hb0] at hfinite
    refine ⟨?_, rfl, rfl⟩
    simp only [Bool.false_eq_true, if_false, normCoef, fdiv_self hfinite]
    decide

/-! ### A unity filter (R251, R256) -/

theorem fsub_self {v : Word} (h : isFinite v = true) : fsub v v = 0 := by
  simp only [fsub, fadd, isNaN_fneg, isInf_fneg, not_nan_inf_of_finite h, sunits_fneg, sign_fneg, add_neg_cancel,
    Bool.or_self, Bool.false_eq_true, if_false, if_true, Bool.and_not_self]
  rfl

theorem fadd_posZero {v : Word} (h : isFinite v = true) (hne : v ≠ 0x80000000) : fadd v 0 = v :=
  fadd_zero h hne (by decide) (by decide)

/-- v + 0 - v is an exact zero. -/
theorem fsub_fadd_posZero_self {v : Word} (h : isFinite v = true) : fsub (fadd v 0) v = 0 := by
  by_cases hne : v = 0x80000000
  · rw [hne]
    decide +kernel
  · rw [fadd_posZero h hne, fsub_self h]

theorem setZ_zero {b : BqUnit} {c : ChanIx} (hz1 : b.z1.get c = 0) (hz2 : b.z2.get c = 0) : b.setZ c 0 0 = b := by
  have hset (z : Vector Word 4) (hz : z.get c = 0) : z.set c.val 0 c.isLt = z := by
    rw [← hz, Vector.get_eq_getElem, Vector.set_getElem_self]
  rw [BqUnit.setZ, hset _ hz1, hset _ hz2]

/-- Settles O31: the sum with a zero state is the input and the two state updates are differences of equal products; an
input of -0.0 meets only zeros. -/
theorem unityBiquadReturnsItsInput : Obligations.UnityBiquadReturnsItsInput := by
  intro b c x hb0 hb1 hb2 ha1 ha2 hx hz1 hz2 hm1 hm2
  have hy : b.nextY c x = fadd x 0 := by
    have hone : fmul b.b0 x = x := hb0 ▸ fmul_f1 hx
    rw [BqUnit.nextY, hone, hz1]
  refine ⟨fun hne => ?_, fun heq => ?_⟩
  · have hyx : b.nextY c x = x := hy.trans (fadd_posZero hx hne)
    have hn1 : b.nextZ1 c x = 0 := by rw [BqUnit.nextZ1, hyx, hb1, hz2, fsub_fadd_posZero_self hm1]
    have hn2 : b.nextZ2 c x = 0 := by rw [BqUnit.nextZ2, hyx, hb2, fsub_self hm2]
    have hfinite : b.StepsFinite c x := ⟨by rwa [hyx], hn1 ▸ isFinite_zero, hn2 ▸ isFinite_zero⟩
    rw [biquadStep_of_stepsFinite hfinite, hyx, hn1, hn2, setZ_zero hz1 hz2]
  · subst heq
    have hy0 : b.nextY c 0x80000000 = 0 := hy.trans (by decide +kernel)
    have hneg (a : Word) (ha : isFinite a = true) : isZero (fmul a 0x80000000) = true := isZero_fmul ha (by decide)
    have hpos (a : Word) (ha : isFinite a = true) : isZero (fmul a 0) = true := isZero_fmul ha (by decide)
    have hdiff {v w : Word} (hv : isZero v = true) (hw : isZero w = true) : isFinite (fsub v w) = true := by
      obtain rfl | rfl := isZero_cases hv <;> obtain rfl | rfl := isZero_cases hw <;> decide +kernel
    have hsum {v : Word} (hv : isZero v = true) : isZero (fadd v 0) = true := by
      obtain rfl | rfl := isZero_cases hv <;> decide +kernel
    have hfinite : b.StepsFinite c 0x80000000 := by
      refine ⟨hy0 ▸ isFinite_zero, ?_, ?_⟩
      · rw [BqUnit.nextZ1, hy0, hb1, hz2]
        exact hdiff (hsum (hneg _ ha1)) (hpos _ ha1)
      · rw [BqUnit.nextZ2, hy0, hb2]
        exact hdiff (hneg _ ha2) (hpos _ ha2)
    rw [biquadStep_of_stepsFinite hfinite, hy0]
    exact ⟨rfl, rfl⟩

/-! ### A delay write moves every tap (R293, R296, R303) -/

theorem DlUnit.tapAddr_advance_succ {d : DlUnit} (k : Nat) : d.advance.tapAddr (k + 1) = d.tapAddr k := by
  have hmod : ((((d.wi + 1) % d.cap : Nat) : Int) - ((k + 1 : Nat) : Int)) % d.cap = ((d.wi : Int) - k) % d.cap := by
    push_cast
    rw [Int.emod_sub_emod]
    congr 1
    omega
  exact congrArg (fun z : Int => d.base + z.toNat) hmod

theorem DlUnit.tapAddr_zero {words : Nat} {d : DlUnit} (h : d.Inv words) : d.tapAddr 0 = d.base + d.wi := by
  rw [DlUnit.tapAddr, Nat.cast_zero, sub_zero, Int.emod_eq_of_lt (by omega) (by have := h.wi; omega), Int.toNat_natCast]

/-- Within one turn of the ring different delays are different addresses. -/
theorem DlUnit.tapAddr_ne_zero {words : Nat} {d : DlUnit} (h : d.Inv words) {k : Nat} (hpos : 0 < k) (hk : k < d.cap) :
    d.tapAddr k ≠ d.tapAddr 0 := by
  have hwi := h.wi
  rw [DlUnit.tapAddr_zero h, DlUnit.tapAddr]
  rcases Nat.lt_or_ge d.wi k with hlt | hge
  · rw [← Int.add_emod_right, Int.emod_eq_of_lt (by omega) (by omega)]
    omega
  · rw [Int.emod_eq_of_lt (by omega) (by omega)]
    omega

/-- Settles O38: the write goes to the new delay-0 address, and the tap k + 1 of the advanced unit is the old tap k. -/
theorem delayWriteShiftsTheTaps : Obligations.DelayWriteShiftsTheTaps := by
  intro ra u s t hu hprepared hunit hwf hexec
  have hnext : exec (.dlwr ra u) s = .next (s.after (s.effect (.dlwr ra u)) (encode (.dlwr ra u))) :=
    exec_of_prepared rfl (Instr.wf_of_unit rfl hu rfl) hprepared hunit.regionOk
  rw [hnext] at hexec
  cases hexec
  have hdl : (s.after (s.effect (.dlwr ra u)) (encode (.dlwr ra u))).dlAt u = (s.dlAt u).advance :=
    State.dlAt_setDl_self hu _
  have hread (a : Nat) : (s.after (s.effect (.dlwr ra u)) (encode (.dlwr ra u))).dmem.read a =
      if a = (s.dlAt u).advance.base + (s.dlAt u).advance.wi then (s.sample ra).1 else s.dmem.read a :=
    Mem.read_write hwf _ _ a
  have hzero := DlUnit.tapAddr_zero hunit.advance
  refine ⟨?_, fun k hk => ?_⟩
  · rw [tap, hdl, hread, if_pos hzero]
    rfl
  · have hne := DlUnit.tapAddr_ne_zero hunit.advance (Nat.succ_pos k) hk
    rw [hzero] at hne
    rw [tap, hdl, hread, if_neg hne, DlUnit.tapAddr_advance_succ, tap]

end Sys2Proof.Machine

namespace Sys2Proof.Machine

/-! ### Where rounding overflows (R10) -/

theorem rte_le_of_lt_half {n d m : Nat} (h : 2 * n < (2 * m + 1) * d) : rte n d ≤ m := by
  have hd : 0 < d := Nat.pos_of_ne_zero fun hzero => by simp [hzero] at h
  have hsplit := Nat.div_add_mod n d
  have hmod := Nat.mod_lt n hd
  have hq : n / d ≤ m := Nat.lt_succ_iff.mp ((Nat.div_lt_iff_lt_mul hd).mpr (by nlinarith))
  rcases hq.lt_or_eq with hlt | heq
  · simp only [rte]
    split <;> omega
  · have hhalf : 2 * (n % d) < d := by rw [heq] at hsplit; nlinarith
    simp only [rte, heq]
    rw [if_neg (by omega)]

/-- The overflow threshold, in units of 2^-149. -/
def overflowUnits : Nat := (2 ^ 25 - 1) * 2 ^ 252

theorem log_two_lt {q k : Nat} (hk : k ≠ 0) (h : q < 2 ^ k) : Nat.log 2 q < k := Nat.log_lt_of_lt_pow' hk h

theorem overflowUnits_lt : overflowUnits < 2 ^ 277 := by
  rw [overflowUnits, show 277 = 25 + 252 by norm_num, pow_add]
  exact Nat.mul_lt_mul_of_pos_right (by norm_num) (Nat.two_pow_pos _)

/-- The threshold is half a last place below 2^128, and rounds up from an odd significand. -/
theorem roundMag_overflowUnits {d : Nat} (hd : 0 < d) : roundMag (overflowUnits * d) d = 0x7F800000 := by
  have hlog : Nat.log2 overflowUnits = 276 := by decide +kernel
  have hrte : rte (overflowUnits * d) (d * 2 ^ 253) = 2 ^ 24 := by
    have hdiv : overflowUnits * d / (d * 2 ^ 253) = 2 ^ 24 - 1 := by
      rw [Nat.mul_comm d, ← Nat.div_div_eq_div_mul, Nat.mul_comm, Nat.div_div_eq_div_mul, Nat.mul_comm (2 ^ 253),
        Nat.mul_div_mul_left _ _ hd]
      decide +kernel
    have hmod : overflowUnits * d % (d * 2 ^ 253) = 2 ^ 252 * d := by
      rw [overflowUnits, show 2 ^ 253 = 2 * 2 ^ 252 by rw [← Nat.pow_succ'], Nat.mul_comm, Nat.mul_mod_mul_left,
        Nat.mul_mod_mul_right, Nat.mul_comm, show (2 ^ 25 - 1) % 2 = 1 by norm_num, Nat.one_mul]
    simp only [rte, hdiv, hmod]
    rw [if_pos (.inr ⟨by ring, by norm_num⟩)]
    norm_num
  rw [roundMag, Nat.mul_div_cancel _ hd, hlog, hrte]
  rfl

/-- A quotient rounds to a finite magnitude exactly below the threshold. -/
theorem roundMag_lt_posInf_iff {n d : Nat} (hd : 0 < d) : roundMag n d < 0x7F800000 ↔ n < overflowUnits * d := by
  refine ⟨fun h => ?_, fun h => ?_⟩
  · by_contra hge
    have := roundMag_mono hd (not_lt.mp hge)
    rw [roundMag_overflowUnits hd] at this
    omega
  · have hplace : lastPlace n d ≤ 253 := by
      have hq : n / d < 2 ^ 277 :=
        ((Nat.div_lt_iff_lt_mul hd).mpr h).trans overflowUnits_lt
      have hlog : Nat.log 2 (n / d) < 277 := log_two_lt (by norm_num) hq
      rw [lastPlace, Nat.log2_eq_log_two]
      omega
    have hsig := roundedSig_le (n := n) hd
    rw [roundMag_eq]
    rcases hplace.lt_or_eq with hlt | heq
    · omega
    · have hodd : roundedSig n d ≤ 2 ^ 24 - 1 := by
        refine rte_le_of_lt_half ?_
        rw [heq]
        calc 2 * n < 2 * (overflowUnits * d) := by omega
          _ = (2 * (2 ^ 24 - 1) + 1) * (d * 2 ^ 253) := by rw [overflowUnits]; ring
      omega

theorem roundMag_lt_posInf_iff_value {n d : Nat} {r : ℚ} (hd : 0 < d) (hr : r * 2 ^ 149 * d = n) :
    roundMag n d < 0x7F800000 ↔ r < overflowBound := by
  have hpos : (0 : ℚ) < 2 ^ 149 * d := by positivity
  have hbound : ((overflowUnits * d : Nat) : ℚ) = overflowBound * (2 ^ 149 * d) := by
    rw [overflowBound, overflowUnits]
    push_cast
    ring
  rw [roundMag_lt_posInf_iff hd, ← Nat.cast_lt (α := ℚ), hbound, ← hr, mul_assoc, mul_lt_mul_iff_left₀ hpos]

theorem roundMag_eq_posInf {n d : Nat} (h : ¬roundMag n d < 0x7F800000) : roundMag n d = 0x7F800000 :=
  le_antisymm (roundMag_le n d) (not_lt.mp h)

/-! ### Rounding with a sign (R10) -/

theorem value_fneg (w : Word) : value (fneg w) = -value w := by
  rw [value, value, sunits_fneg, Int.cast_neg, neg_div]

theorem IsNearestEven.neg {r : ℚ} {w : Word} (h : IsNearestEven r w) : IsNearestEven (-r) (fneg w) := by
  have hflip (v : Word) : |-r - value v| = |r - value (fneg v)| := by
    rw [value_fneg, ← abs_neg]
    ring_nf
  have heven : (fneg w).getLsbD 0 = w.getLsbD 0 := by simp [fneg]
  refine ⟨(isFinite_fneg w).trans h.1, fun v hv => ?_⟩
  obtain ⟨hle, htie⟩ := h.2 (fneg v) ((isFinite_fneg v).trans hv)
  rw [hflip, hflip, fneg_fneg, heven]
  refine ⟨hle, fun heq => (htie heq).imp_left fun hsame => ?_⟩
  rw [value_fneg, ← hsame, value_fneg, neg_neg]

/-- The sign and the rounded magnitude of r are r rounded. -/
theorem isNearestEven_signed {n d : Nat} {r : ℚ} {s : Bool} (hd : 0 < d) (hr : |r| * 2 ^ 149 * d = n)
    (hs : r = if s then -|r| else |r|) (h : |r| < overflowBound) : IsNearestEven r (signed s (roundMag n d)) := by
  have hmag := isNearestEven_roundMag hd hr ((roundMag_lt_posInf_iff_value hd hr).mpr h)
  cases s
  case false =>
    rw [hs]
    exact hmag
  case true =>
    have hneg := hmag.neg
    rw [fneg_signed (roundMag_lt _ _)] at hneg
    rw [hs]
    exact hneg

theorem isInf_signed {n d : Nat} {r : ℚ} (s : Bool) (hd : 0 < d) (hr : |r| * 2 ^ 149 * d = n)
    (h : overflowBound ≤ |r|) : isInf (signed s (roundMag n d)) = true := by
  have hge : ¬roundMag n d < 0x7F800000 := by rwa [roundMag_lt_posInf_iff_value hd hr, not_lt]
  rw [roundMag_eq_posInf hge]
  cases s <;> decide

theorem value_eq_ite_sign (w : Word) : value w = if w.sign then -|value w| else |value w| := by
  split
  case isTrue h => rw [abs_of_nonpos (value_nonpos_of_sign_true h), neg_neg]
  case isFalse h => rw [abs_of_nonneg (value_nonneg_of_sign_false (Bool.eq_false_of_not_eq_true h))]

/-! ### Sums and differences -/

theorem fadd_of_isFinite {a b : Word} (ha : isFinite a = true) (hb : isFinite b = true) :
    fadd a b = signed (if value a + value b = 0 then a.sign && b.sign else decide (value a + value b < 0))
      (roundMag (sunits a + sunits b).natAbs 1) := by
  have hsum : value a + value b = ((sunits a + sunits b : Int) : ℚ) / 2 ^ 149 := by
    rw [value, value, ← add_div, Int.cast_add]
  have hpos : (0 : ℚ) < 2 ^ 149 := by positivity
  have hzero : value a + value b = 0 ↔ sunits a + sunits b = 0 := by
    rw [hsum, div_eq_zero_iff, or_iff_left hpos.ne', Int.cast_eq_zero]
  have hneg : value a + value b < 0 ↔ sunits a + sunits b < 0 := by
    rw [hsum, div_lt_iff₀ hpos, zero_mul, Int.cast_lt_zero]
  simp only [fadd, not_nan_inf_of_finite ha, not_nan_inf_of_finite hb, hzero, hneg, Bool.or_self, Bool.false_eq_true,
    if_false]
  split
  case isTrue h => rw [h, Int.natAbs_zero, roundMag_zero one_pos]
  case isFalse => rfl

section
variable {a b : Word} (ha : isFinite a = true) (hb : isFinite b = true)
include ha hb

theorem fadd_rounded :
    (|value a + value b| < overflowBound → IsNearestEven (value a + value b) (fadd a b)) ∧
    (overflowBound ≤ |value a + value b| →
      isInf (fadd a b) = true ∧ (fadd a b).sign = decide (value a + value b < 0)) ∧
    (value a + value b = 0 → fadd a b = if a.sign && b.sign then 0x80000000 else 0x00000000) := by
  have hmag : |value a + value b| * 2 ^ 149 * (1 : Nat) = (sunits a + sunits b).natAbs := by
    rw [Nat.cast_one, mul_one, Nat.cast_natAbs, Int.cast_abs, Int.cast_add, sunits_eq_value, sunits_eq_value, ← add_mul,
      abs_mul, abs_of_pos (by positivity : (0 : ℚ) < 2 ^ 149)]
  rw [fadd_of_isFinite ha hb]
  refine ⟨isNearestEven_signed one_pos hmag ?_, fun h => ⟨isInf_signed _ one_pos hmag h, ?_⟩, fun h => ?_⟩
  · rcases lt_trichotomy (value a + value b) 0 with h | h | h
    · simp [h, h.ne, abs_of_neg h]
    · simp [h]
    · simp [h.ne', h.le, abs_of_pos h]
  · have hne : value a + value b ≠ 0 := fun hzero => by
      rw [hzero, abs_zero, overflowBound] at h
      norm_num at h
    rw [sign_signed _ (roundMag_lt _ _), if_neg hne]
  · have hz : (sunits a + sunits b).natAbs = 0 := by
      rw [h, abs_zero, zero_mul, zero_mul] at hmag
      exact_mod_cast hmag.symm
    rw [if_pos h, hz, roundMag_zero one_pos]
    cases a.sign && b.sign <;> rfl

end

/-- Settles O1: the sign and the rounded magnitude of the exact sum; a difference is the sum with the negated word. -/
theorem sumsAreCorrectlyRounded : Obligations.SumsAreCorrectlyRounded := by
  intro a b ha hb
  obtain ⟨hadd, haddInf, haddZero⟩ := fadd_rounded ha hb
  have hsub := fadd_rounded ha ((isFinite_fneg b).trans hb)
  rw [value_fneg, ← sub_eq_add_neg, sign_fneg] at hsub
  obtain ⟨hsub, hsubInf, hsubZero⟩ := hsub
  exact ⟨hadd, haddInf, haddZero, hsub, hsubInf, hsubZero⟩

/-! ### Products and quotients -/

theorem fmul_of_isFinite {a b : Word} (ha : isFinite a = true) (hb : isFinite b = true) :
    fmul a b = signed (a.sign != b.sign) (roundMag (units a * units b) (2 ^ 149)) := by
  simp only [fmul, not_nan_inf_of_finite ha, not_nan_inf_of_finite hb, Bool.or_self, Bool.false_eq_true, if_false]

/-- Settles O2: the XOR of the signs and the rounded product of the magnitudes. -/
theorem productsAreCorrectlyRounded : Obligations.ProductsAreCorrectlyRounded := by
  intro a b ha hb
  have hmag : |value a * value b| * 2 ^ 149 * (2 ^ 149 : Nat) = (units a * units b : Nat) := by
    push_cast
    rw [units_eq_abs_value, units_eq_abs_value, abs_mul]
    ring
  have hsign : value a * value b = if a.sign != b.sign then -|value a * value b| else |value a * value b| := by
    rw [abs_mul]
    conv_lhs => rw [value_eq_ite_sign a, value_eq_ite_sign b]
    cases a.sign <;> cases b.sign <;> simp
  rw [fmul_of_isFinite ha hb]
  exact ⟨isNearestEven_signed (Nat.two_pow_pos 149) hmag hsign, isInf_signed _ (Nat.two_pow_pos 149) hmag,
    sign_signed _ (roundMag_lt _ _)⟩

theorem fdiv_of_isZero {a b : Word} (ha : isFinite a = true) (hb : isZero b = true) :
    fdiv a b = if isZero a then qNaN else signed (a.sign != b.sign) 0x7F800000 := by
  have hbfinite : isFinite b = true := by obtain rfl | rfl := isZero_cases hb <;> decide
  simp only [fdiv, not_nan_inf_of_finite ha, not_nan_inf_of_finite hbfinite, hb, Bool.or_self, Bool.false_eq_true,
    if_false, if_true]

/-- Settles O3: the XOR of the signs and the rounded quotient of the magnitudes, and the two outcomes of a zero
divisor. -/
theorem quotientsAreCorrectlyRounded : Obligations.QuotientsAreCorrectlyRounded := by
  intro a b ha hb
  refine ⟨fun hnonzero => ?_, fun hzero => ⟨fun ha0 => ?_, fun ha0 => ?_⟩⟩
  · have hpos : 0 < units b := Nat.pos_of_ne_zero fun h => by
      rw [isZero_of_units_eq_zero h] at hnonzero
      cases hnonzero
    have hvalue : |value b| ≠ 0 := fun h => by
      have hunits := units_eq_abs_value b
      rw [h, zero_mul] at hunits
      exact hpos.ne' (by exact_mod_cast hunits)
    have hmag : |value a / value b| * 2 ^ 149 * units b = (units a * 2 ^ 149 : Nat) := by
      push_cast
      rw [units_eq_abs_value, units_eq_abs_value, abs_div]
      field_simp
      norm_num
    have hsign : value a / value b = if a.sign != b.sign then -|value a / value b| else |value a / value b| := by
      rw [abs_div]
      conv_lhs => rw [value_eq_ite_sign a, value_eq_ite_sign b]
      cases a.sign <;> cases b.sign <;> simp [neg_div, div_neg]
    rw [fdiv_of_isFinite ha hb hpos]
    exact ⟨isNearestEven_signed hpos hmag hsign, isInf_signed _ hpos hmag, sign_signed _ (roundMag_lt _ _)⟩
  · rw [fdiv_of_isZero ha hzero, if_neg (by rw [ha0]; exact Bool.false_ne_true)]
    exact ⟨by cases a.sign != b.sign <;> decide, sign_signed _ (by norm_num)⟩
  · rw [fdiv_of_isZero ha hzero, if_pos ha0]
    decide

/-! ### Conversions (R11) -/

theorem rn32Int_nearest {z : Int} {j : Nat} (hj : j ≤ 149) (h : |(z : ℚ) / 2 ^ j| < overflowBound) :
    IsNearestEven ((z : ℚ) / 2 ^ j) (rn32Int z j) := by
  have hpos : (0 : ℚ) < 2 ^ j := by positivity
  refine isNearestEven_signed one_pos ?_ ?_ h
  · rw [abs_div, abs_of_pos hpos]
    push_cast
    rw [mul_one, div_mul_eq_mul_div, ← pow_sub_mul_pow (2 : ℚ) hj]
    field_simp
    norm_num
  · by_cases hz : z < 0
    · have hneg : (z : ℚ) / 2 ^ j < 0 := div_neg_of_neg_of_pos (by exact_mod_cast hz) hpos
      rw [decide_eq_true hz, if_pos rfl, abs_of_neg hneg, neg_neg]
    · have hnonneg : (0 : ℚ) ≤ (z : ℚ) / 2 ^ j := div_nonneg (by exact_mod_cast not_lt.mp hz) hpos.le
      rw [decide_eq_false hz, if_neg Bool.false_ne_true, abs_of_nonneg hnonneg]

theorem rn32Int_natCast (n j : Nat) : rn32Int n j = rn32 n j := by
  rw [rn32Int, rn32, decide_eq_false (by omega), Int.natAbs_natCast]

/-- Settles O5: `rte` by its remainder, RN32 by its sign and rounded magnitude, and the naturals up to 2^24, which have
24 significant bits or are 2^24. -/
theorem conversionsRoundToNearestEven : Obligations.ConversionsRoundToNearestEven := by
  refine ⟨fun n d hd => ?_, fun n j hj h => ?_, fun z j => rn32Int_nearest, fun n hn => ?_⟩
  · obtain ⟨hle, htie⟩ := rte_nearest_int (n := n) hd
    rw [Int.abs_eq_natAbs] at hle htie
    exact ⟨by exact_mod_cast hle, fun h => htie (by exact_mod_cast h)⟩
  · have hnonneg : (0 : ℚ) ≤ (n : ℚ) / 2 ^ j := by positivity
    rw [← rn32Int_natCast]
    exact rn32Int_nearest (z := n) hj (by rwa [Int.cast_natCast, abs_of_nonneg hnonneg])
  · rcases hn.lt_or_eq with hlt | rfl
    · exact ⟨(toF32_exact hlt).1.1, value_toF32 hlt⟩
    · exact ⟨by decide +kernel, by decide +kernel⟩

end Sys2Proof.Machine

namespace Sys2Proof.Machine

/-! ### The integer square root -/

theorem isqrtFrom_spec (n bits acc : Nat) (hle : acc ^ 2 ≤ n) (hlt : n < (acc + 2 ^ bits) ^ 2) :
    (isqrtFrom n bits acc) ^ 2 ≤ n ∧ n < (isqrtFrom n bits acc + 1) ^ 2 := by
  induction bits generalizing acc with
  | zero => exact ⟨hle, hlt⟩
  | succ bits ih =>
    rw [isqrtFrom]
    split
    case isTrue hnext => exact ih _ (by rwa [pow_two]) (by rwa [add_assoc, ← two_mul, ← pow_succ'])
    case isFalse hnext => exact ih _ hle (by rw [pow_two]; omega)

theorem isqrt_spec {n : Nat} (h : n < (2 ^ 256) ^ 2) : isqrt n ^ 2 ≤ n ∧ n < (isqrt n + 1) ^ 2 :=
  isqrtFrom_spec n 256 0 (Nat.zero_le n) (by rwa [Nat.zero_add])

/-! ### The rounded root (R10) -/

/-- Twice a root r of n, floored to an integer, made odd where it is not exact: what `fsqrt` rounds at half. -/
def stickyTwice (n r : Nat) : Nat := 2 * r + if r * r = n then 0 else 1

theorem stickyTwice_div_two (n r : Nat) : stickyTwice n r / 2 = r := by
  unfold stickyTwice
  split <;> omega

section
variable {n r : Nat} (hle : r ^ 2 ≤ n) (hlt : n < (r + 1) ^ 2) {t : Nat}

include hle in
/-- An even twice-root is exact, and an odd one lies between the two even numbers beside it. -/
theorem sq_le_of_le_stickyTwice (ht : t ≤ stickyTwice n r) (hodd : stickyTwice n r % 2 = 1 → t ≠ stickyTwice n r) :
    t ^ 2 ≤ 4 * n := by
  have hroot : t ≤ 2 * r := by
    unfold stickyTwice at ht hodd
    split at ht
    case isTrue => exact ht
    case isFalse hinexact =>
      rw [if_neg hinexact] at hodd
      omega
  calc t ^ 2 ≤ (2 * r) ^ 2 := Nat.pow_le_pow_left hroot 2
    _ = 4 * r ^ 2 := by ring
    _ ≤ 4 * n := Nat.mul_le_mul_left 4 hle

include hlt in
theorem le_sq_of_stickyTwice_le (ht : stickyTwice n r ≤ t) (hodd : stickyTwice n r % 2 = 1 → t ≠ stickyTwice n r) :
    4 * n ≤ t ^ 2 := by
  unfold stickyTwice at ht hodd
  split at ht
  case isTrue hexact =>
    calc 4 * n = (2 * r) ^ 2 := by rw [← hexact]; ring
      _ ≤ t ^ 2 := Nat.pow_le_pow_left ht 2
  case isFalse hinexact =>
    rw [if_neg hinexact] at hodd
    calc 4 * n ≤ 4 * (r + 1) ^ 2 := Nat.mul_le_mul_left 4 hlt.le
      _ = (2 * r + 2) ^ 2 := by ring
      _ ≤ t ^ 2 := Nat.pow_le_pow_left (by omega) 2

end

/-- Where m / 2 rounds at a last place of at least 4 units, the rounded word is even and so is a word as far from m / 2 on
the other side, so an odd m is no sum of the two. -/
theorem even_of_halfway {m : Nat} (hplace : 2 ≤ lastPlace m 2) {v : Word} (hv : v.sign = false)
    (hhalf : roundedSig m 2 * 2 ^ lastPlace m 2 + units v = m) : m % 2 = 0 := by
  obtain ⟨j, hj⟩ : ∃ j, lastPlace m 2 = j + 2 := ⟨lastPlace m 2 - 2, by omega⟩
  have hlead := two_pow_lastPlace_le_div (n := m) (d := 2) (by omega)
  have hnear := (rte_nearest_int (n := m) (d := 2 * 2 ^ lastPlace m 2) (by positivity)).1
  change 2 * |(m : Int) - roundedSig m 2 * _| ≤ _ at hnear
  generalize roundedSig m 2 = S at *
  rw [hj] at hhalf hlead hnear
  have hquarter : S * 2 ^ (j + 2) = 4 * (S * 2 ^ j) := by rw [pow_add]; ring
  have hbits : 2 ^ (23 + (j + 2)) = 2 ^ 25 * 2 ^ j := by rw [← pow_add]; congr 1; omega
  have hhigh : 2 ^ (23 + (j + 1)) ≤ units v := by
    have hpow : 2 ^ (23 + (j + 1)) = 2 ^ 24 * 2 ^ j := by rw [← pow_add]; congr 1; omega
    rw [Nat.cast_mul, Nat.cast_ofNat] at hnear
    have hlow := (abs_le.mp (le_of_mul_le_mul_left hnear (by norm_num : (0 : Int) < 2))).1
    push_cast at hlow
    rw [show (S : Int) * (2 * 2 ^ (j + 2)) = 8 * (S * 2 ^ j) by rw [pow_add]; ring,
      show (2 : Int) ^ (j + 2) = 4 * 2 ^ j by rw [pow_add]; ring] at hlow
    rw [hquarter] at hhalf
    rw [hbits] at hlead
    rw [hpow]
    have hcast : ((S * 2 ^ j : Nat) : Int) = S * 2 ^ j := by push_cast; rfl
    have hcast' : ((2 ^ j : Nat) : Int) = 2 ^ j := by push_cast; rfl
    rw [← hcast, ← hcast'] at hlow
    omega
  rcases two_pow_dvd_sunits_or_lt v (j + 1) with hdvd | ⟨-, hlt⟩
  · rw [sunits_of_sign_false hv, pow_succ'] at hdvd
    have heven : 2 ∣ units v := by exact_mod_cast (dvd_mul_right (2 : Int) (2 ^ j)).trans hdvd
    omega
  · rw [sunits_of_sign_false hv] at hlt
    have : units v < 2 ^ (23 + (j + 1)) := by exact_mod_cast hlt
    omega

/-- Nearest to x, a word W is on its own side of every half-way point. -/
theorem le_halfway_of_nearest {x w v : ℚ} (h : |x - w| ≤ |x - v|) (hlt : w < v) : 2 * x ≤ w + v := by
  have hsq := sq_le_sq.mpr h
  nlinarith

theorem halfway_le_of_nearest {x w v : ℚ} (h : |x - w| ≤ |x - v|) (hlt : v < w) : w + v ≤ 2 * x := by
  have hsq := sq_le_sq.mpr h
  nlinarith

/-- The exact square under the root, in units of 2^-298. -/
def radicand (a : Word) : Nat := units a * 2 ^ 149

/-- What `fsqrt` rounds, in half units of 2^-149. -/
def halfRoot (a : Word) : Nat := stickyTwice (radicand a) (isqrt (radicand a))

section
variable {a : Word} (ha : isFinite a = true)
include ha

theorem radicand_lt : radicand a < (2 ^ 213) ^ 2 := by
  have hinf : units 0x7F800000 = 2 ^ 277 := by decide +kernel
  have hlt := units_lt_units_posInf ha
  rw [hinf] at hlt
  calc units a * 2 ^ 149 < 2 ^ 277 * 2 ^ 149 := Nat.mul_lt_mul_of_pos_right hlt (Nat.two_pow_pos 149)
    _ = (2 ^ 213) ^ 2 := by rw [← pow_add, ← pow_mul]

theorem isqrt_radicand : isqrt (radicand a) ^ 2 ≤ radicand a ∧ radicand a < (isqrt (radicand a) + 1) ^ 2 :=
  isqrt_spec ((radicand_lt ha).trans_le (Nat.pow_le_pow_left (Nat.pow_le_pow_right (by norm_num) (by norm_num)) 2))

theorem fsqrt_of_pos (hzero : isZero a = false) (hsign : a.sign = false) :
    fsqrt a = signed false (roundMag (halfRoot a) 2) := by
  simp only [fsqrt, not_nan_inf_of_finite ha, hzero, hsign, Bool.false_eq_true, if_false]
  rfl

theorem isqrt_radicand_lt : isqrt (radicand a) < 2 ^ 213 :=
  lt_of_pow_lt_pow_left₀ 2 (Nat.zero_le _) ((isqrt_radicand ha).1.trans_lt (radicand_lt ha))

theorem roundMag_halfRoot_lt : roundMag (halfRoot a) 2 < 0x7F800000 := by
  rw [roundMag_lt_posInf_iff (by norm_num), ← Nat.div_lt_iff_lt_mul (by norm_num), halfRoot, stickyTwice_div_two]
  refine (isqrt_radicand_lt ha).trans_le ?_
  calc 2 ^ 213 ≤ 2 ^ 252 := Nat.pow_le_pow_right (by norm_num) (by norm_num)
    _ ≤ (2 ^ 25 - 1) * 2 ^ 252 := Nat.le_mul_of_pos_left _ (by norm_num)

/-- The root of a positive word is at least 2^74 units, so its last place is far above a unit. -/
theorem two_le_lastPlace_halfRoot (hzero : isZero a = false) : 2 ≤ lastPlace (halfRoot a) 2 := by
  have hpos : 1 ≤ units a := Nat.one_le_iff_ne_zero.mpr fun h => by
    rw [isZero_of_units_eq_zero h] at hzero
    cases hzero
  have hroot : 2 ^ 74 ≤ isqrt (radicand a) := by
    refine Nat.lt_succ_iff.mp (lt_of_pow_lt_pow_left₀ 2 (Nat.zero_le _) (lt_of_le_of_lt ?_ (isqrt_radicand ha).2))
    calc (2 ^ 74) ^ 2 ≤ 1 * 2 ^ 149 := by norm_num
      _ ≤ units a * 2 ^ 149 := Nat.mul_le_mul_right _ hpos
  have hlog := Nat.log_mono_right (b := 2) hroot
  rw [Nat.log_pow (by norm_num)] at hlog
  rw [lastPlace, halfRoot, stickyTwice_div_two, Nat.log2_eq_log_two]
  omega

/-- The square of the sum of the root and a word, against four times the radicand. -/
theorem fsqrt_halfway (hzero : isZero a = false) (hsign : a.sign = false) {v : Word} (hv : v.sign = false) :
    (units (fsqrt a) < units v → 4 * radicand a ≤ (units (fsqrt a) + units v) ^ 2) ∧
    (units v < units (fsqrt a) → (units (fsqrt a) + units v) ^ 2 ≤ 4 * radicand a) := by
  have hroot : units (fsqrt a) = roundedSig (halfRoot a) 2 * 2 ^ lastPlace (halfRoot a) 2 := by
    rw [fsqrt_of_pos ha hzero hsign]
    exact (finiteNonneg_roundMag (by norm_num) (roundMag_halfRoot_lt ha)).2
  have hodd : halfRoot a % 2 = 1 → units (fsqrt a) + units v ≠ halfRoot a := fun hodd htie => by
    rw [hroot] at htie
    have heven := even_of_halfway (two_le_lastPlace_halfRoot ha hzero) hv htie
    omega
  have hnearest := (roundedSig_nearest (n := halfRoot a) (d := 2) (x := (halfRoot a : ℚ) / 2) (by norm_num)
    (by push_cast; ring) v).1
  have hcast : ((roundedSig (halfRoot a) 2 : ℚ) * 2 ^ lastPlace (halfRoot a) 2) = units (fsqrt a) := by
    rw [hroot]
    push_cast
    rfl
  rw [hcast, sunits_of_sign_false hv, Int.cast_natCast] at hnearest
  obtain ⟨hlow, hhigh⟩ := isqrt_radicand ha
  refine ⟨fun hlt => ?_, fun hlt => ?_⟩
  · have hside := le_halfway_of_nearest hnearest (by exact_mod_cast hlt)
    rw [mul_div_cancel₀ _ (by norm_num)] at hside
    exact le_sq_of_stickyTwice_le hhigh (by exact_mod_cast hside) hodd
  · have hside := halfway_le_of_nearest hnearest (by exact_mod_cast hlt)
    rw [mul_div_cancel₀ _ (by norm_num)] at hside
    exact sq_le_of_le_stickyTwice hlow (by exact_mod_cast hside) hodd

end

theorem value_of_sign_false {w : Word} (h : w.sign = false) : value w = units w / 2 ^ 149 := by
  rw [value, sunits_of_sign_false h, Int.cast_natCast]

/-- Settles O4: a half-way point never is what `fsqrt` rounds unless the root is exact, so the sticky half decides every
comparison of squares; the special cases are the branches of `fsqrt`. -/
theorem squareRootsAreCorrectlyRounded : Obligations.SquareRootsAreCorrectlyRounded := by
  refine fun a => ⟨fun ha hzero hsign => ?_, fun hzero => ?_, fun hinf => ?_, fun hnan hzero hsign => ?_⟩
  · obtain ⟨hfinite, hpos⟩ : FiniteNonneg (fsqrt a) := by
      rw [fsqrt_of_pos ha hzero hsign]
      exact (finiteNonneg_roundMag (by norm_num) (roundMag_halfRoot_lt ha)).1
    refine ⟨hfinite, hpos, fun v hv hvsign => ?_⟩
    obtain ⟨habove, hbelow⟩ := fsqrt_halfway ha hzero hsign hvsign
    have hsquare : ((value (fsqrt a) + value v) / 2) ^ 2 =
        ((units (fsqrt a) + units v) ^ 2 : Nat) / ((2 ^ 150) ^ 2 : ℚ) := by
      rw [value_of_sign_false hpos, value_of_sign_false hvsign]
      push_cast
      ring
    have hradicand : value a = (4 * radicand a : Nat) / ((2 ^ 150) ^ 2 : ℚ) := by
      rw [value_of_sign_false hsign, radicand]
      push_cast
      ring
    have hlt {x y : Word} (hx : x.sign = false) (hy : y.sign = false) (h : value x < value y) : units x < units y := by
      rw [value_lt_value_iff, sunits_of_sign_false hx, sunits_of_sign_false hy] at h
      exact_mod_cast h
    rw [hsquare, hradicand]
    refine ⟨fun h => ?_, fun h => ?_⟩
    · exact div_le_div_of_nonneg_right (by exact_mod_cast habove (hlt hpos hvsign h)) (by positivity)
    · exact div_le_div_of_nonneg_right (by exact_mod_cast hbelow (hlt hvsign hpos h)) (by positivity)
  · obtain rfl | rfl := isZero_cases hzero <;> decide +kernel
  · rw [hinf]
    decide +kernel
  · simp only [fsqrt, hnan, hzero, hsign, Bool.false_eq_true, if_false, if_true]
    decide

end Sys2Proof.Machine

namespace Sys2Proof.Machine

/-! ### A convolver unit fed a list of inputs (R415, R426) -/

/-- The unit after one CVPROC for each sample of the list. -/
def CvUnit.feed (p : Limits) (c : CvUnit) (xs : List Word) : CvUnit := xs.foldl (fun c x => (c.push p x).1) c

section
variable (p : Limits) (c : CvUnit)

theorem CvUnit.feed_cons (x : Word) (xs : List Word) : c.feed p (x :: xs) = (c.push p x).1.feed p xs := rfl

theorem CvUnit.feed_append (xs ys : List Word) : c.feed p (xs ++ ys) = (c.feed p xs).feed p ys := List.foldl_append

theorem CvUnit.blk_push (x : Word) : (c.push p x).1.blk = c.blk := by
  by_cases hlast : c.n + 1 = c.blk
  · rw [CvUnit.push_of_eq hlast]
    rfl
  · rw [CvUnit.push_of_ne hlast]
    rfl

/-- N counts the inputs modulo B. -/
theorem CvUnit.n_push {c : CvUnit} (hn : c.n < c.blk) (x : Word) : (c.push p x).1.n = (c.n + 1) % c.blk := by
  by_cases hlast : c.n + 1 = c.blk
  · rw [CvUnit.push_of_eq hlast, hlast, Nat.mod_self]
    rfl
  · rw [CvUnit.push_of_ne hlast, Nat.mod_eq_of_lt (by omega)]
    rfl

theorem CvUnit.feed_position {c : CvUnit} (hn : c.n < c.blk) (xs : List Word) :
    (c.feed p xs).blk = c.blk ∧ (c.feed p xs).n = (c.n + xs.length) % c.blk := by
  induction xs generalizing c with
  | nil => exact ⟨rfl, (Nat.mod_eq_of_lt hn).symm⟩
  | cons x xs ih =>
    have hstep := CvUnit.n_push p hn x
    have hlt : (c.push p x).1.n < (c.push p x).1.blk := by
      rw [hstep, CvUnit.blk_push]
      exact Nat.mod_lt _ (by omega)
    obtain ⟨hblk, hpos⟩ := ih hlt
    rw [CvUnit.feed_cons]
    refine ⟨hblk.trans (CvUnit.blk_push ..), ?_⟩
    rw [hpos, hstep, CvUnit.blk_push, Nat.mod_add_mod, List.length_cons]
    congr 1
    omega

/-- Within a block the output buffer does not change. -/
theorem CvUnit.feed_outb {c : CvUnit} {xs : List Word} (h : c.n + xs.length < c.blk) : (c.feed p xs).outb = c.outb := by
  induction xs generalizing c with
  | nil => rfl
  | cons x xs ih =>
    rw [List.length_cons] at h
    have hpush : c.push p x = (c.accept x, 0) := CvUnit.push_of_ne (by omega)
    rw [CvUnit.feed_cons, hpush]
    exact ih (show c.n + 1 + xs.length < c.blk by omega)

/-- The output for a sample is read from the buffer before the sample is taken in. -/
theorem CvUnit.getD_outputs {c : CvUnit} {xs : List Word} {n : Nat} (h : n < xs.length) :
    (c.outputs p xs).getD n 0 = (c.feed p (xs.take n)).outb.read (c.feed p (xs.take n)).n := by
  induction n generalizing c xs with
  | zero =>
    obtain ⟨x, xs, rfl⟩ := List.exists_cons_of_length_pos h
    rfl
  | succ n ih =>
    obtain ⟨x, xs, rfl⟩ := List.exists_cons_of_length_pos (Nat.zero_lt_of_lt h)
    rw [CvUnit.outputs, List.getD_cons_succ, List.take_succ_cons, CvUnit.feed_cons]
    exact ih (Nat.lt_of_succ_lt_succ h)

/-- Output n is read from what the blocks before its own have left. -/
theorem CvUnit.getD_outputs_of_block {c : CvUnit} {xs : List Word} {n : Nat} (hn : c.n = 0) (hblk : 0 < c.blk)
    (h : n < xs.length) :
    (c.outputs p xs).getD n 0 = (c.feed p (xs.take (n / c.blk * c.blk))).outb.read (n % c.blk) := by
  have hsplit : n = n / c.blk * c.blk + n % c.blk := (Nat.div_add_mod' n c.blk).symm
  have hlt : n % c.blk < c.blk := Nat.mod_lt n hblk
  have htake : xs.take n = xs.take (n / c.blk * c.blk) ++ (xs.drop (n / c.blk * c.blk)).take (n % c.blk) := by
    conv_lhs => rw [hsplit, List.take_add]
  obtain ⟨-, hpos⟩ := CvUnit.feed_position p (hn.trans_lt hblk) (xs.take n)
  obtain ⟨hblk', hpos'⟩ := CvUnit.feed_position p (hn.trans_lt hblk) (xs.take (n / c.blk * c.blk))
  rw [List.length_take_of_le h.le, hn, Nat.zero_add] at hpos
  rw [List.length_take_of_le ((Nat.div_mul_le_self n c.blk).trans h.le), hn, Nat.zero_add, Nat.mul_mod_left] at hpos'
  rw [CvUnit.getD_outputs p h, hpos, htake, CvUnit.feed_append, CvUnit.feed_outb]
  rw [hpos', hblk', Nat.zero_add]
  exact (List.length_take_le _ _).trans_lt hlt

end

/-- Settles O57: the output buffer an output is read from was written by the blocks before, and is empty before the
first block. -/
theorem convolverOutputLagsItsInput : Obligations.ConvolverOutputLagsItsInput := by
  intro p c xs ys n hcleared hblk hxs hys
  obtain ⟨hn, -, houtb, -⟩ := hcleared
  refine ⟨fun hfirst => ?_, fun hsame => ?_⟩
  · rw [CvUnit.getD_outputs_of_block p hn hblk hxs, Nat.div_eq_of_lt hfirst, Nat.zero_mul, List.take_zero]
    exact houtb ▸ Mem.read_nil _
  · rw [CvUnit.getD_outputs_of_block p hn hblk hxs, CvUnit.getD_outputs_of_block p hn hblk hys, hsame]

end Sys2Proof.Machine
